-- ==== Sys2Proof/Word.lean ====
section
/-! DEFINITION. The two word types of the hardware (rule R5: `XLEN` = 8, `ALEN` = 16). -/

namespace Sys2Proof

/-- A byte: register contents, memory and port contents, operand bytes (R5, R7). -/
abbrev Byte := BitVec 8

/-- A 16-bit word: PC, SP, register pairs and memory addresses (R5, R7). -/
abbrev Word := BitVec 16

end Sys2Proof
end

