-- ==== Sys2Proof/Machine/Bits.lean ====
section
/-! DEFINITION. Bit fields, concatenation and truncation (rules R6, R7). -/

namespace Sys2Proof

/-- `hi8(w) = w[15:8]` (R6). -/
def hi8 (w : Word) : Byte := w.extractLsb' 8 8

/-- `lo8(w) = w[7:0]` (R6). -/
def lo8 (w : Word) : Byte := w.extractLsb' 0 8

/-- `h ++ l`, the more significant byte first (R6). -/
def cat (h l : Byte) : Word := h ++ l

/-- `trunc8(n) = n mod 256`, the non-negative remainder, for any integer (R7). -/
def trunc8 (n : Int) : Byte := BitVec.ofInt 8 n

/-- `trunc16(n) = n mod 65536`, the non-negative remainder, for any integer (R7). -/
def trunc16 (n : Int) : Word := BitVec.ofInt 16 n

end Sys2Proof
end

