-- ==== Sys2Proof/Config.lean ====
section
/-! DEFINITION. What is fixed for the hardware (rule R5) and the one parameter the spec leaves open,
`NOPALIAS` (R80, decision D4), as plain data. Its default value stands in Machine/Params.lean. -/

namespace Sys2Proof.Config

/-- `MEMSIZE` (R5, R34). -/
def memSize : Nat := 65536

/-- `IOSIZE` (R5, R35). -/
def ioSize : Nat := 256

/-- `RESET_PC` (R5, R38). -/
def resetPC : Word := 0x0000#16

/-- `RESET_SP` (R5, R38). -/
def resetSP : Word := 0xFFFE#16

/-- `UNASSIGNED`, the ten opcode bytes that select no instruction of the documented set (R5, R80). -/
inductive Unassigned where
  | u08 | u10 | u18 | u28 | u38 | uCB | uD9 | uDD | uED | uFD
  deriving DecidableEq, Repr

/-- The parameter `NOPALIAS` (R5, R80, D4): a subset of `UNASSIGNED`, one membership bit per byte, so
that every subset can be written and nothing that is not a subset can. DESIGN CHOICE (log 1): the
parameter is carried as plain data in State, so that a statement about all states is a statement
about all subsets. -/
structure NopAlias where
  m08 : Bool
  m10 : Bool
  m18 : Bool
  m28 : Bool
  m38 : Bool
  mCB : Bool
  mD9 : Bool
  mDD : Bool
  mED : Bool
  mFD : Bool
  deriving DecidableEq, Repr

/-- Membership of a byte of `UNASSIGNED` in `NOPALIAS` (R80). -/
def NopAlias.has (n : NopAlias) : Unassigned → Bool
  | .u08 => n.m08
  | .u10 => n.m10
  | .u18 => n.m18
  | .u28 => n.m28
  | .u38 => n.m38
  | .uCB => n.mCB
  | .uD9 => n.mD9
  | .uDD => n.mDD
  | .uED => n.mED
  | .uFD => n.mFD

end Sys2Proof.Config
end

