-- ==== Sys2Proof/Machine/Memory.lean ====
section
/-! DEFINITION. The two byte arrays of the hardware, `mem` and `io` (R34, R35), as sparse lists of
(address, byte) pairs in one canonical form: addresses strictly rising, no entry equal to what an
unlisted address reads as. -/

namespace Sys2Proof.Machine

/-- An array of bytes: the listed cells; every other address reads as `blankByte`. -/
abbrev Memory := List Host.Cell

/-- What an unlisted address reads as: the power-on zero of `mem` and `io` (R39, R60). -/
def blankByte : Byte := 0x00#8

/-- The byte at one address. -/
def Memory.read : Memory → Nat → Byte
  | [], _ => blankByte
  | (k, v) :: rest, a => if k = a then v else Memory.read rest a

/-- Put a cell before a list, unless it holds what an unlisted address reads as. -/
def Memory.consCell (a : Nat) (v : Byte) (rest : Memory) : Memory :=
  if v = blankByte then rest else (a, v) :: rest

/-- Store a byte at one address, keeping the canonical form. -/
def Memory.write : Memory → Nat → Byte → Memory
  | [], a, v => Memory.consCell a v []
  | (k, x) :: rest, a, v =>
    if a < k then Memory.consCell a v ((k, x) :: rest)
    else if a = k then Memory.consCell a v rest
    else (k, x) :: Memory.write rest a v

/-- Canonical form from address `lo` on, below `size`. -/
def Memory.wfFrom (size : Nat) : Nat → Memory → Bool
  | _, [] => true
  | lo, (k, v) :: rest =>
    decide (lo ≤ k) && decide (k < size) && decide (v ≠ blankByte) && Memory.wfFrom size (k + 1) rest

/-- The canonical form of an array of `size` bytes: addresses strictly rising and below `size`, and no
entry that an unlisted address would read as. -/
def Memory.wf (size : Nat) (m : Memory) : Bool := Memory.wfFrom size 0 m

end Sys2Proof.Machine
end

