-- ==== Sys2Proof/Machine/Params.lean ====
section
/-! DEFINITION. The default of the one open parameter of the hardware. -/

namespace Sys2Proof.Machine

/-- The spec's default `NOPALIAS` = 0x08, 0x10, 0x18, 0x28, 0x38 (R5, R80, D4). DESIGN CHOICE (log 1): the spec
leaves the parameter open and `State.reset` takes its default. -/
def defaultNopAlias : Config.NopAlias :=
  ⟨true, true, true, true, true, false, false, false, false, false⟩

end Sys2Proof.Machine
end

