-- ==== Sys2Proof/Machine/State.lean ====
section
/-! DEFINITION. The whole mutable state of the hardware (`10_state.md`), its reset value, and the
reasons a step could stop. -/

namespace Sys2Proof.Machine

/-- The five flags, "five independent booleans" (R27): Sign, Zero, Auxiliary-Carry, Parity, Carry. -/
structure Flags where
  s : Bool
  z : Bool
  ac : Bool
  p : Bool
  cy : Bool
  deriving DecidableEq, Repr

/-- The processor aggregate: the seven registers (R20), SP (R25), PC (R26), the flags (R27), `halted` (R31),
`illegal` (R32), `mem` (R34) and `io` (R35). `nopAlias` is the parameter `NOPALIAS` of R5 held as plain
data (log 1); it is no state of the spec's and nothing ever writes it. There is nothing else (R33, R36). -/
structure State where
  a : Byte
  b : Byte
  c : Byte
  d : Byte
  e : Byte
  h : Byte
  l : Byte
  sp : Word
  pc : Word
  flags : Flags
  halted : Bool
  illegal : Bool
  mem : Memory
  io : Memory
  nopAlias : Config.NopAlias
  deriving DecidableEq, Repr

/-- Why a step would stop with a fault. There is no such reason: every instruction is total and the one
exceptional event, the fail-stop, is a defined next state (R242, R94, R240), so the type is empty. -/
inductive Fault where
  deriving DecidableEq, Repr

/-- Why a step would be refused. -/
inductive Refusal where
  /-- Raised by `exec` for an instruction that has no meaning yet; safe (the model stops where the hardware
  goes on). No arm raises it: every instruction has its meaning. -/
  | notModelled (mnemonic : String)
  deriving DecidableEq, Repr

/-- The flags after `reset`: those of a zero result, not all-zero (R38). -/
def resetFlags : Flags := ⟨false, true, false, true, false⟩

/-- The machine right after construction and `reset` (R38, R39): registers 0x00, SP = 0xFFFE, PC = 0x0000, flags
0 1 0 1 0, running, arrays zero-filled. That construction alone leaves the same values is decision D2 (log 2);
the value of `nopAlias` is a DESIGN CHOICE, the spec's default (log 1). -/
def State.reset : State :=
  { a := 0x00#8
    b := 0x00#8
    c := 0x00#8
    d := 0x00#8
    e := 0x00#8
    h := 0x00#8
    l := 0x00#8
    sp := Config.resetSP
    pc := Config.resetPC
    flags := resetFlags
    halted := false
    illegal := false
    mem := []
    io := []
    nopAlias := defaultNopAlias }

end Sys2Proof.Machine
end

