-- ==== Sys2Proof/Machine/Flags.lean ====
section
/-! DEFINITION. The ALU primitives and every flag computation: `SZP`, `add8`, `sub8` (R120 to R122), `logic8` (R160),
the decimal adjustment (R144), the packed status byte (R27, R28). Each computes on exact integers and
narrows at the end, as its rule is written. -/

namespace Sys2Proof.Machine

/-- Sign: bit 7 (R29, R120). -/
def signOf (v : Byte) : Bool := v.getLsbD 7

/-- Zero (R29, R120). -/
def zeroOf (v : Byte) : Bool := v == 0x00#8

/-- The number of 1 bits of a byte. -/
def popCount (v : Byte) : Nat :=
  (v.getLsbD 0).toNat + (v.getLsbD 1).toNat + (v.getLsbD 2).toNat + (v.getLsbD 3).toNat
    + (v.getLsbD 4).toNat + (v.getLsbD 5).toNat + (v.getLsbD 6).toNat + (v.getLsbD 7).toNat

/-- Parity: an even number of 1 bits (R29, R120). -/
def parityOf (v : Byte) : Bool := popCount v % 2 == 0

/-- `SZP(v)`: writes S, Z and P and no other flag (R120). -/
def szp (v : Byte) (f : Flags) : Flags :=
  { f with s := signOf v, z := zeroOf v, p := parityOf v }

/-- `add8(a, b, cin)`: the returned byte and the five flags it writes (R121). -/
def add8 (a b : Byte) (cin : Bool) (f : Flags) : Byte × Flags :=
  let t := a.toNat + b.toNat + cin.toNat
  let v := BitVec.ofNat 8 t
  (v, szp v { f with
    cy := decide (t > 255)
    ac := decide (a.toNat % 16 + b.toNat % 16 + cin.toNat > 15) })

/-- `sub8(a, b, bin)`: the returned byte and the five flags it writes; both carries are borrows
(R122, decision D5, conflict C8). -/
def sub8 (a b : Byte) (bin : Bool) (f : Flags) : Byte × Flags :=
  let t : Int := (a.toNat : Int) - (b.toNat : Int) - (bin.toNat : Int)
  let v := trunc8 t
  (v, szp v { f with
    cy := decide (t < 0)
    ac := decide (((a.toNat % 16 : Nat) : Int) - ((b.toNat % 16 : Nat) : Int) - (bin.toNat : Int) < 0) })

/-- `logic8(v)`: Carry and Auxiliary-Carry cleared, S, Z and P from the result, for AND too (R160, conflict C7). -/
def logic8 (v : Byte) (f : Flags) : Flags := szp v { f with cy := false, ac := false }

/-- The low correction of DAA (R144). -/
def daaLowCorrection (a : Byte) (f : Flags) : Nat :=
  if f.ac = true ∨ a.toNat % 16 > 9 then 0x06 else 0

/-- The whole correction of DAA: `a1` is the value after the low correction only, and `a1[8:4] > 9` asks
for the high one (R144, decision D6). -/
def daaCorrection (a : Byte) (f : Flags) : Nat :=
  let a1 := a.toNat + daaLowCorrection a f
  if f.cy = true ∨ a1 / 16 % 32 > 9 then daaLowCorrection a f + 0x60 else daaLowCorrection a f

/-- DAA: the adjusted byte and the flags. S, Z, AC and P are those of the addition of the correction; CY is
the carry of that addition OR the CY on entry (R144, D6, C5, U4; log 8). -/
def decimalAdjust (a : Byte) (f : Flags) : Byte × Flags :=
  let r := add8 a (BitVec.ofNat 8 (daaCorrection a f)) false f
  (r.1, { r.2 with cy := f.cy || r.2.cy })

/-- `PackPSW()`, the packed status byte (R27). -/
def packPSW (f : Flags) : Byte :=
  BitVec.ofNat 8
    (128 * f.s.toNat + 64 * f.z.toNat + 16 * f.ac.toNat + 4 * f.p.toNat + 2 + f.cy.toNat)

/-- `UnpackPSW(b)`; bits 5, 3 and 1 are ignored (R28, decision D11). -/
def unpackPSW (b : Byte) : Flags :=
  { s := b.getLsbD 7, z := b.getLsbD 6, ac := b.getLsbD 4, p := b.getLsbD 2, cy := b.getLsbD 0 }

end Sys2Proof.Machine
end

