-- ==== Sys2Proof/Syntax.lean ====
section
/-! DEFINITION. The instructions: one constructor of `Instr` per row of spec/opcode_table.json (rules R74, R80), with
the operand bytes that follow the opcode (R72); the operand codes of R21, R24 and R97 as types; and, for the
families of R71, the functions from an operand to the family's constructor. -/

namespace Sys2Proof

/-- The seven 8-bit registers (R20). -/
inductive Reg8 where
  | b | c | d | e | h | l | a
  deriving DecidableEq, Repr

/-- An 8-bit operand named by a 3-bit code: a register or M, the memory byte at HL (R21). -/
inductive Opnd8 where
  | reg (r : Reg8)
  | m
  deriving DecidableEq, Repr

/-- A 16-bit operand named by a 2-bit code: a register pair or SP (R24). -/
inductive Pair where
  | bc | de | hl | sp
  deriving DecidableEq, Repr

/-- The eight conditions (R97). -/
inductive Cond where
  | nz | z | nc | c | po | pe | p | m
  deriving DecidableEq, Repr

/-- The eight ALU operations of quadrant 10 and of the immediate forms (R71). -/
inductive AluOp where
  | add | adc | sub | sbb | ana | xra | ora | cmp
  deriving DecidableEq, Repr

/-- The instructions. `d8` and `p8` are byte 2, `d16` and `a16` are byte 3 ++ byte 2 (R72). Each of the ten
unassigned bytes is an entry of its own (R80). In the table's order within each format, F3, F2, F1 (Lean's runtime
bounds the index of a constructor that has fields). -/
inductive Instr where
  | lxiB (d16 : Word)
  | lxiD (d16 : Word)
  | lxiH (d16 : Word)
  | shld (a16 : Word)
  | lhld (a16 : Word)
  | lxiSP (d16 : Word)
  | sta (a16 : Word)
  | lda (a16 : Word)
  | jnz (a16 : Word)
  | jmp (a16 : Word)
  | cnz (a16 : Word)
  | jz (a16 : Word)
  | cz (a16 : Word)
  | call (a16 : Word)
  | jnc (a16 : Word)
  | cnc (a16 : Word)
  | jc (a16 : Word)
  | cc (a16 : Word)
  | jpo (a16 : Word)
  | cpo (a16 : Word)
  | jpe (a16 : Word)
  | cpe (a16 : Word)
  | jp (a16 : Word)
  | cp (a16 : Word)
  | jm (a16 : Word)
  | cm (a16 : Word)
  | mviB (d8 : Byte)
  | mviC (d8 : Byte)
  | mviD (d8 : Byte)
  | mviE (d8 : Byte)
  | mviH (d8 : Byte)
  | mviL (d8 : Byte)
  | mviM (d8 : Byte)
  | mviA (d8 : Byte)
  | adi (d8 : Byte)
  | aci (d8 : Byte)
  | outPort (p8 : Byte)
  | sui (d8 : Byte)
  | inPort (p8 : Byte)
  | sbi (d8 : Byte)
  | ani (d8 : Byte)
  | xri (d8 : Byte)
  | ori (d8 : Byte)
  | cpi (d8 : Byte)
  | nop
  | staxB
  | inxB
  | inrB
  | dcrB
  | rlc
  | nopAlias08
  | dadB
  | ldaxB
  | dcxB
  | inrC
  | dcrC
  | rrc
  | nopAlias10
  | staxD
  | inxD
  | inrD
  | dcrD
  | ral
  | nopAlias18
  | dadD
  | ldaxD
  | dcxD
  | inrE
  | dcrE
  | rar
  | rim
  | inxH
  | inrH
  | dcrH
  | daa
  | nopAlias28
  | dadH
  | dcxH
  | inrL
  | dcrL
  | cma
  | sim
  | inxSP
  | inrM
  | dcrM
  | stc
  | nopAlias38
  | dadSP
  | dcxSP
  | inrA
  | dcrA
  | cmc
  | movBB
  | movBC
  | movBD
  | movBE
  | movBH
  | movBL
  | movBM
  | movBA
  | movCB
  | movCC
  | movCD
  | movCE
  | movCH
  | movCL
  | movCM
  | movCA
  | movDB
  | movDC
  | movDD
  | movDE
  | movDH
  | movDL
  | movDM
  | movDA
  | movEB
  | movEC
  | movED
  | movEE
  | movEH
  | movEL
  | movEM
  | movEA
  | movHB
  | movHC
  | movHD
  | movHE
  | movHH
  | movHL
  | movHM
  | movHA
  | movLB
  | movLC
  | movLD
  | movLE
  | movLH
  | movLL
  | movLM
  | movLA
  | movMB
  | movMC
  | movMD
  | movME
  | movMH
  | movML
  | hlt
  | movMA
  | movAB
  | movAC
  | movAD
  | movAE
  | movAH
  | movAL
  | movAM
  | movAA
  | addB
  | addC
  | addD
  | addE
  | addH
  | addL
  | addM
  | addA
  | adcB
  | adcC
  | adcD
  | adcE
  | adcH
  | adcL
  | adcM
  | adcA
  | subB
  | subC
  | subD
  | subE
  | subH
  | subL
  | subM
  | subA
  | sbbB
  | sbbC
  | sbbD
  | sbbE
  | sbbH
  | sbbL
  | sbbM
  | sbbA
  | anaB
  | anaC
  | anaD
  | anaE
  | anaH
  | anaL
  | anaM
  | anaA
  | xraB
  | xraC
  | xraD
  | xraE
  | xraH
  | xraL
  | xraM
  | xraA
  | oraB
  | oraC
  | oraD
  | oraE
  | oraH
  | oraL
  | oraM
  | oraA
  | cmpB
  | cmpC
  | cmpD
  | cmpE
  | cmpH
  | cmpL
  | cmpM
  | cmpA
  | rnz
  | popB
  | pushB
  | rst0
  | rz
  | ret
  | failStopCB
  | rst1
  | rnc
  | popD
  | pushD
  | rst2
  | rc
  | failStopD9
  | failStopDD
  | rst3
  | rpo
  | popH
  | xthl
  | pushH
  | rst4
  | rpe
  | pchl
  | xchg
  | failStopED
  | rst5
  | rp
  | popPSW
  | di
  | pushPSW
  | rst6
  | rm
  | sphl
  | ei
  | failStopFD
  | rst7
  deriving DecidableEq, Repr

/-- `MOV r1,r2`: destination, then source (R100). -/
def Instr.mov : Reg8 → Reg8 → Instr
  | .b, .b => .movBB
  | .b, .c => .movBC
  | .b, .d => .movBD
  | .b, .e => .movBE
  | .b, .h => .movBH
  | .b, .l => .movBL
  | .b, .a => .movBA
  | .c, .b => .movCB
  | .c, .c => .movCC
  | .c, .d => .movCD
  | .c, .e => .movCE
  | .c, .h => .movCH
  | .c, .l => .movCL
  | .c, .a => .movCA
  | .d, .b => .movDB
  | .d, .c => .movDC
  | .d, .d => .movDD
  | .d, .e => .movDE
  | .d, .h => .movDH
  | .d, .l => .movDL
  | .d, .a => .movDA
  | .e, .b => .movEB
  | .e, .c => .movEC
  | .e, .d => .movED
  | .e, .e => .movEE
  | .e, .h => .movEH
  | .e, .l => .movEL
  | .e, .a => .movEA
  | .h, .b => .movHB
  | .h, .c => .movHC
  | .h, .d => .movHD
  | .h, .e => .movHE
  | .h, .h => .movHH
  | .h, .l => .movHL
  | .h, .a => .movHA
  | .l, .b => .movLB
  | .l, .c => .movLC
  | .l, .d => .movLD
  | .l, .e => .movLE
  | .l, .h => .movLH
  | .l, .l => .movLL
  | .l, .a => .movLA
  | .a, .b => .movAB
  | .a, .c => .movAC
  | .a, .d => .movAD
  | .a, .e => .movAE
  | .a, .h => .movAH
  | .a, .l => .movAL
  | .a, .a => .movAA

/-- `MOV r,M` (R101). -/
def Instr.movFromM : Reg8 → Instr
  | .b => .movBM
  | .c => .movCM
  | .d => .movDM
  | .e => .movEM
  | .h => .movHM
  | .l => .movLM
  | .a => .movAM

/-- `MOV M,r` (R102). -/
def Instr.movToM : Reg8 → Instr
  | .b => .movMB
  | .c => .movMC
  | .d => .movMD
  | .e => .movME
  | .h => .movMH
  | .l => .movML
  | .a => .movMA

/-- `MVI r,d8` and `MVI M,d8` (R103, R104). -/
def Instr.mvi : Opnd8 → Byte → Instr
  | .reg .b, d8 => .mviB d8
  | .reg .c, d8 => .mviC d8
  | .reg .d, d8 => .mviD d8
  | .reg .e, d8 => .mviE d8
  | .reg .h, d8 => .mviH d8
  | .reg .l, d8 => .mviL d8
  | .m, d8 => .mviM d8
  | .reg .a, d8 => .mviA d8

/-- `INR` of a register or M (R137, R138). -/
def Instr.inr : Opnd8 → Instr
  | .reg .b => .inrB
  | .reg .c => .inrC
  | .reg .d => .inrD
  | .reg .e => .inrE
  | .reg .h => .inrH
  | .reg .l => .inrL
  | .m => .inrM
  | .reg .a => .inrA

/-- `DCR` of a register or M (R139, R140). -/
def Instr.dcr : Opnd8 → Instr
  | .reg .b => .dcrB
  | .reg .c => .dcrC
  | .reg .d => .dcrD
  | .reg .e => .dcrE
  | .reg .h => .dcrH
  | .reg .l => .dcrL
  | .m => .dcrM
  | .reg .a => .dcrA

/-- Quadrant 10: an ALU operation on a register or M (R71, R75). -/
def Instr.alu : AluOp → Opnd8 → Instr
  | .add, .reg .b => .addB
  | .add, .reg .c => .addC
  | .add, .reg .d => .addD
  | .add, .reg .e => .addE
  | .add, .reg .h => .addH
  | .add, .reg .l => .addL
  | .add, .m => .addM
  | .add, .reg .a => .addA
  | .adc, .reg .b => .adcB
  | .adc, .reg .c => .adcC
  | .adc, .reg .d => .adcD
  | .adc, .reg .e => .adcE
  | .adc, .reg .h => .adcH
  | .adc, .reg .l => .adcL
  | .adc, .m => .adcM
  | .adc, .reg .a => .adcA
  | .sub, .reg .b => .subB
  | .sub, .reg .c => .subC
  | .sub, .reg .d => .subD
  | .sub, .reg .e => .subE
  | .sub, .reg .h => .subH
  | .sub, .reg .l => .subL
  | .sub, .m => .subM
  | .sub, .reg .a => .subA
  | .sbb, .reg .b => .sbbB
  | .sbb, .reg .c => .sbbC
  | .sbb, .reg .d => .sbbD
  | .sbb, .reg .e => .sbbE
  | .sbb, .reg .h => .sbbH
  | .sbb, .reg .l => .sbbL
  | .sbb, .m => .sbbM
  | .sbb, .reg .a => .sbbA
  | .ana, .reg .b => .anaB
  | .ana, .reg .c => .anaC
  | .ana, .reg .d => .anaD
  | .ana, .reg .e => .anaE
  | .ana, .reg .h => .anaH
  | .ana, .reg .l => .anaL
  | .ana, .m => .anaM
  | .ana, .reg .a => .anaA
  | .xra, .reg .b => .xraB
  | .xra, .reg .c => .xraC
  | .xra, .reg .d => .xraD
  | .xra, .reg .e => .xraE
  | .xra, .reg .h => .xraH
  | .xra, .reg .l => .xraL
  | .xra, .m => .xraM
  | .xra, .reg .a => .xraA
  | .ora, .reg .b => .oraB
  | .ora, .reg .c => .oraC
  | .ora, .reg .d => .oraD
  | .ora, .reg .e => .oraE
  | .ora, .reg .h => .oraH
  | .ora, .reg .l => .oraL
  | .ora, .m => .oraM
  | .ora, .reg .a => .oraA
  | .cmp, .reg .b => .cmpB
  | .cmp, .reg .c => .cmpC
  | .cmp, .reg .d => .cmpD
  | .cmp, .reg .e => .cmpE
  | .cmp, .reg .h => .cmpH
  | .cmp, .reg .l => .cmpL
  | .cmp, .m => .cmpM
  | .cmp, .reg .a => .cmpA

/-- An ALU operation on an immediate byte (R71, R75). -/
def Instr.aluImm : AluOp → Byte → Instr
  | .add, d8 => .adi d8
  | .adc, d8 => .aci d8
  | .sub, d8 => .sui d8
  | .sbb, d8 => .sbi d8
  | .ana, d8 => .ani d8
  | .xra, d8 => .xri d8
  | .ora, d8 => .ori d8
  | .cmp, d8 => .cpi d8

/-- `LXI rp,d16` (R105). -/
def Instr.lxi : Pair → Word → Instr
  | .bc, d16 => .lxiB d16
  | .de, d16 => .lxiD d16
  | .hl, d16 => .lxiH d16
  | .sp, d16 => .lxiSP d16

/-- `INX rp` (R141). -/
def Instr.inx : Pair → Instr
  | .bc => .inxB
  | .de => .inxD
  | .hl => .inxH
  | .sp => .inxSP

/-- `DCX rp` (R142). -/
def Instr.dcx : Pair → Instr
  | .bc => .dcxB
  | .de => .dcxD
  | .hl => .dcxH
  | .sp => .dcxSP

/-- `DAD rp` (R143). -/
def Instr.dad : Pair → Instr
  | .bc => .dadB
  | .de => .dadD
  | .hl => .dadH
  | .sp => .dadSP

/-- `Jccc a16` (R191). -/
def Instr.jccc : Cond → Word → Instr
  | .nz, a16 => .jnz a16
  | .z, a16 => .jz a16
  | .nc, a16 => .jnc a16
  | .c, a16 => .jc a16
  | .po, a16 => .jpo a16
  | .pe, a16 => .jpe a16
  | .p, a16 => .jp a16
  | .m, a16 => .jm a16

/-- `Cccc a16` (R193). -/
def Instr.cccc : Cond → Word → Instr
  | .nz, a16 => .cnz a16
  | .z, a16 => .cz a16
  | .nc, a16 => .cnc a16
  | .c, a16 => .cc a16
  | .po, a16 => .cpo a16
  | .pe, a16 => .cpe a16
  | .p, a16 => .cp a16
  | .m, a16 => .cm a16

/-- `Rccc` (R195). -/
def Instr.rccc : Cond → Instr
  | .nz => .rnz
  | .z => .rz
  | .nc => .rnc
  | .c => .rc
  | .po => .rpo
  | .pe => .rpe
  | .p => .rp
  | .m => .rm

/-- `RST n` (R196). -/
def Instr.rst : Fin 8 → Instr
  | 0 => .rst0
  | 1 => .rst1
  | 2 => .rst2
  | 3 => .rst3
  | 4 => .rst4
  | 5 => .rst5
  | 6 => .rst6
  | 7 => .rst7

end Sys2Proof
end

