-- ==== Sys2Proof/WellFormed.lean ====
section
/-! DEFINITION. What is a well-formed instruction. As SYNTAX nothing more is to be checked: the operand types of `Instr`
have exactly the widths the spec gives (R72: 8-bit `d8`, `p8`; 16-bit `d16`, `a16`), every value of them is legal
(R242) and registers, pairs, conditions and restart numbers are part of the constructor, so that no ill-formed
term of `Instr` exists. As BYTES there is a check: a byte string is one instruction exactly when it has an opcode
and the number of bytes that the opcode alone decides (R70, R73, R83). -/

namespace Sys2Proof

/-- The length in bytes of the instruction whose opcode byte is `op`, from the masks of R73. -/
def lengthOfOpcode (op : Byte) : Nat :=
  if op &&& 0xC7#8 = 0x06#8 ∨ op &&& 0xC7#8 = 0xC6#8 ∨ op = 0xD3#8 ∨ op = 0xDB#8 then 2
  else if op &&& 0xCF#8 = 0x01#8 ∨ op = 0x22#8 ∨ op = 0x2A#8 ∨ op = 0x32#8 ∨ op = 0x3A#8
      ∨ op &&& 0xC7#8 = 0xC2#8 ∨ op = 0xC3#8 ∨ op &&& 0xC7#8 = 0xC4#8 ∨ op = 0xCD#8 then 3
  else 1

/-- What is wrong with a byte string as one instruction. -/
inductive FormError where
  /-- There is no byte at all, so no opcode. -/
  | noOpcode
  /-- Operand bytes of the opcode are missing. -/
  | tooShort (op : Byte)
  /-- Bytes stand after the instruction. -/
  | tooLong (op : Byte)
  deriving DecidableEq, Repr

/-- The check of a byte string as exactly one instruction: `none` where it is well formed. -/
def checkBytes : List Byte → Option FormError
  | [] => some .noOpcode
  | op :: operands =>
    if operands.length + 1 < lengthOfOpcode op then some (.tooShort op)
    else if lengthOfOpcode op < operands.length + 1 then some (.tooLong op)
    else none

/-- A byte string that is exactly one instruction (R70, R73). -/
def wellFormedBytes (bytes : List Byte) : Bool := checkBytes bytes == none

end Sys2Proof
end

