-- ==== Sys2Proof/Decode.lean ====
section
/-! DEFINITION. The decoder, written from the map of rule R74 row by row, and after it the encoder, written from the field
layouts of rule R71 and the operand codes of R21, R24 and R97. The map and the layouts are two sources of the
spec; that they agree is a statement about the two. -/

namespace Sys2Proof

/-- An entry of the opcode map: an instruction with the operand bytes its format still asks for (R70). -/
inductive Entry where
  /-- Format F1: the opcode alone. -/
  | f1 (i : Instr)
  /-- Format F2: one operand byte, `d8` or `p8`. -/
  | f2 (make : Byte → Instr)
  /-- Format F3: two operand bytes, low byte first. -/
  | f3 (make : Word → Instr)

/-- Row 0x of the opcode map: column = low digit of the opcode byte (R74). -/
def opcodeRow0 : Nat → Entry
  | 0x0 => .f1 .nop
  | 0x1 => .f3 .lxiB
  | 0x2 => .f1 .staxB
  | 0x3 => .f1 .inxB
  | 0x4 => .f1 .inrB
  | 0x5 => .f1 .dcrB
  | 0x6 => .f2 .mviB
  | 0x7 => .f1 .rlc
  | 0x8 => .f1 .nopAlias08
  | 0x9 => .f1 .dadB
  | 0xA => .f1 .ldaxB
  | 0xB => .f1 .dcxB
  | 0xC => .f1 .inrC
  | 0xD => .f1 .dcrC
  | 0xE => .f2 .mviC
  | _ => .f1 .rrc

/-- Row 1x of the opcode map: column = low digit of the opcode byte (R74). -/
def opcodeRow1 : Nat → Entry
  | 0x0 => .f1 .nopAlias10
  | 0x1 => .f3 .lxiD
  | 0x2 => .f1 .staxD
  | 0x3 => .f1 .inxD
  | 0x4 => .f1 .inrD
  | 0x5 => .f1 .dcrD
  | 0x6 => .f2 .mviD
  | 0x7 => .f1 .ral
  | 0x8 => .f1 .nopAlias18
  | 0x9 => .f1 .dadD
  | 0xA => .f1 .ldaxD
  | 0xB => .f1 .dcxD
  | 0xC => .f1 .inrE
  | 0xD => .f1 .dcrE
  | 0xE => .f2 .mviE
  | _ => .f1 .rar

/-- Row 2x of the opcode map: column = low digit of the opcode byte (R74). -/
def opcodeRow2 : Nat → Entry
  | 0x0 => .f1 .rim
  | 0x1 => .f3 .lxiH
  | 0x2 => .f3 .shld
  | 0x3 => .f1 .inxH
  | 0x4 => .f1 .inrH
  | 0x5 => .f1 .dcrH
  | 0x6 => .f2 .mviH
  | 0x7 => .f1 .daa
  | 0x8 => .f1 .nopAlias28
  | 0x9 => .f1 .dadH
  | 0xA => .f3 .lhld
  | 0xB => .f1 .dcxH
  | 0xC => .f1 .inrL
  | 0xD => .f1 .dcrL
  | 0xE => .f2 .mviL
  | _ => .f1 .cma

/-- Row 3x of the opcode map: column = low digit of the opcode byte (R74). -/
def opcodeRow3 : Nat → Entry
  | 0x0 => .f1 .sim
  | 0x1 => .f3 .lxiSP
  | 0x2 => .f3 .sta
  | 0x3 => .f1 .inxSP
  | 0x4 => .f1 .inrM
  | 0x5 => .f1 .dcrM
  | 0x6 => .f2 .mviM
  | 0x7 => .f1 .stc
  | 0x8 => .f1 .nopAlias38
  | 0x9 => .f1 .dadSP
  | 0xA => .f3 .lda
  | 0xB => .f1 .dcxSP
  | 0xC => .f1 .inrA
  | 0xD => .f1 .dcrA
  | 0xE => .f2 .mviA
  | _ => .f1 .cmc

/-- Row 4x of the opcode map: column = low digit of the opcode byte (R74). -/
def opcodeRow4 : Nat → Entry
  | 0x0 => .f1 .movBB
  | 0x1 => .f1 .movBC
  | 0x2 => .f1 .movBD
  | 0x3 => .f1 .movBE
  | 0x4 => .f1 .movBH
  | 0x5 => .f1 .movBL
  | 0x6 => .f1 .movBM
  | 0x7 => .f1 .movBA
  | 0x8 => .f1 .movCB
  | 0x9 => .f1 .movCC
  | 0xA => .f1 .movCD
  | 0xB => .f1 .movCE
  | 0xC => .f1 .movCH
  | 0xD => .f1 .movCL
  | 0xE => .f1 .movCM
  | _ => .f1 .movCA

/-- Row 5x of the opcode map: column = low digit of the opcode byte (R74). -/
def opcodeRow5 : Nat → Entry
  | 0x0 => .f1 .movDB
  | 0x1 => .f1 .movDC
  | 0x2 => .f1 .movDD
  | 0x3 => .f1 .movDE
  | 0x4 => .f1 .movDH
  | 0x5 => .f1 .movDL
  | 0x6 => .f1 .movDM
  | 0x7 => .f1 .movDA
  | 0x8 => .f1 .movEB
  | 0x9 => .f1 .movEC
  | 0xA => .f1 .movED
  | 0xB => .f1 .movEE
  | 0xC => .f1 .movEH
  | 0xD => .f1 .movEL
  | 0xE => .f1 .movEM
  | _ => .f1 .movEA

/-- Row 6x of the opcode map: column = low digit of the opcode byte (R74). -/
def opcodeRow6 : Nat → Entry
  | 0x0 => .f1 .movHB
  | 0x1 => .f1 .movHC
  | 0x2 => .f1 .movHD
  | 0x3 => .f1 .movHE
  | 0x4 => .f1 .movHH
  | 0x5 => .f1 .movHL
  | 0x6 => .f1 .movHM
  | 0x7 => .f1 .movHA
  | 0x8 => .f1 .movLB
  | 0x9 => .f1 .movLC
  | 0xA => .f1 .movLD
  | 0xB => .f1 .movLE
  | 0xC => .f1 .movLH
  | 0xD => .f1 .movLL
  | 0xE => .f1 .movLM
  | _ => .f1 .movLA

/-- Row 7x of the opcode map: column = low digit of the opcode byte (R74). -/
def opcodeRow7 : Nat → Entry
  | 0x0 => .f1 .movMB
  | 0x1 => .f1 .movMC
  | 0x2 => .f1 .movMD
  | 0x3 => .f1 .movME
  | 0x4 => .f1 .movMH
  | 0x5 => .f1 .movML
  | 0x6 => .f1 .hlt
  | 0x7 => .f1 .movMA
  | 0x8 => .f1 .movAB
  | 0x9 => .f1 .movAC
  | 0xA => .f1 .movAD
  | 0xB => .f1 .movAE
  | 0xC => .f1 .movAH
  | 0xD => .f1 .movAL
  | 0xE => .f1 .movAM
  | _ => .f1 .movAA

/-- Row 8x of the opcode map: column = low digit of the opcode byte (R74). -/
def opcodeRow8 : Nat → Entry
  | 0x0 => .f1 .addB
  | 0x1 => .f1 .addC
  | 0x2 => .f1 .addD
  | 0x3 => .f1 .addE
  | 0x4 => .f1 .addH
  | 0x5 => .f1 .addL
  | 0x6 => .f1 .addM
  | 0x7 => .f1 .addA
  | 0x8 => .f1 .adcB
  | 0x9 => .f1 .adcC
  | 0xA => .f1 .adcD
  | 0xB => .f1 .adcE
  | 0xC => .f1 .adcH
  | 0xD => .f1 .adcL
  | 0xE => .f1 .adcM
  | _ => .f1 .adcA

/-- Row 9x of the opcode map: column = low digit of the opcode byte (R74). -/
def opcodeRow9 : Nat → Entry
  | 0x0 => .f1 .subB
  | 0x1 => .f1 .subC
  | 0x2 => .f1 .subD
  | 0x3 => .f1 .subE
  | 0x4 => .f1 .subH
  | 0x5 => .f1 .subL
  | 0x6 => .f1 .subM
  | 0x7 => .f1 .subA
  | 0x8 => .f1 .sbbB
  | 0x9 => .f1 .sbbC
  | 0xA => .f1 .sbbD
  | 0xB => .f1 .sbbE
  | 0xC => .f1 .sbbH
  | 0xD => .f1 .sbbL
  | 0xE => .f1 .sbbM
  | _ => .f1 .sbbA

/-- Row Ax of the opcode map: column = low digit of the opcode byte (R74). -/
def opcodeRowA : Nat → Entry
  | 0x0 => .f1 .anaB
  | 0x1 => .f1 .anaC
  | 0x2 => .f1 .anaD
  | 0x3 => .f1 .anaE
  | 0x4 => .f1 .anaH
  | 0x5 => .f1 .anaL
  | 0x6 => .f1 .anaM
  | 0x7 => .f1 .anaA
  | 0x8 => .f1 .xraB
  | 0x9 => .f1 .xraC
  | 0xA => .f1 .xraD
  | 0xB => .f1 .xraE
  | 0xC => .f1 .xraH
  | 0xD => .f1 .xraL
  | 0xE => .f1 .xraM
  | _ => .f1 .xraA

/-- Row Bx of the opcode map: column = low digit of the opcode byte (R74). -/
def opcodeRowB : Nat → Entry
  | 0x0 => .f1 .oraB
  | 0x1 => .f1 .oraC
  | 0x2 => .f1 .oraD
  | 0x3 => .f1 .oraE
  | 0x4 => .f1 .oraH
  | 0x5 => .f1 .oraL
  | 0x6 => .f1 .oraM
  | 0x7 => .f1 .oraA
  | 0x8 => .f1 .cmpB
  | 0x9 => .f1 .cmpC
  | 0xA => .f1 .cmpD
  | 0xB => .f1 .cmpE
  | 0xC => .f1 .cmpH
  | 0xD => .f1 .cmpL
  | 0xE => .f1 .cmpM
  | _ => .f1 .cmpA

/-- Row Cx of the opcode map: column = low digit of the opcode byte (R74). -/
def opcodeRowC : Nat → Entry
  | 0x0 => .f1 .rnz
  | 0x1 => .f1 .popB
  | 0x2 => .f3 .jnz
  | 0x3 => .f3 .jmp
  | 0x4 => .f3 .cnz
  | 0x5 => .f1 .pushB
  | 0x6 => .f2 .adi
  | 0x7 => .f1 .rst0
  | 0x8 => .f1 .rz
  | 0x9 => .f1 .ret
  | 0xA => .f3 .jz
  | 0xB => .f1 .failStopCB
  | 0xC => .f3 .cz
  | 0xD => .f3 .call
  | 0xE => .f2 .aci
  | _ => .f1 .rst1

/-- Row Dx of the opcode map: column = low digit of the opcode byte (R74). -/
def opcodeRowD : Nat → Entry
  | 0x0 => .f1 .rnc
  | 0x1 => .f1 .popD
  | 0x2 => .f3 .jnc
  | 0x3 => .f2 .outPort
  | 0x4 => .f3 .cnc
  | 0x5 => .f1 .pushD
  | 0x6 => .f2 .sui
  | 0x7 => .f1 .rst2
  | 0x8 => .f1 .rc
  | 0x9 => .f1 .failStopD9
  | 0xA => .f3 .jc
  | 0xB => .f2 .inPort
  | 0xC => .f3 .cc
  | 0xD => .f1 .failStopDD
  | 0xE => .f2 .sbi
  | _ => .f1 .rst3

/-- Row Ex of the opcode map: column = low digit of the opcode byte (R74). -/
def opcodeRowE : Nat → Entry
  | 0x0 => .f1 .rpo
  | 0x1 => .f1 .popH
  | 0x2 => .f3 .jpo
  | 0x3 => .f1 .xthl
  | 0x4 => .f3 .cpo
  | 0x5 => .f1 .pushH
  | 0x6 => .f2 .ani
  | 0x7 => .f1 .rst4
  | 0x8 => .f1 .rpe
  | 0x9 => .f1 .pchl
  | 0xA => .f3 .jpe
  | 0xB => .f1 .xchg
  | 0xC => .f3 .cpe
  | 0xD => .f1 .failStopED
  | 0xE => .f2 .xri
  | _ => .f1 .rst5

/-- Row Fx of the opcode map: column = low digit of the opcode byte (R74). -/
def opcodeRowF : Nat → Entry
  | 0x0 => .f1 .rp
  | 0x1 => .f1 .popPSW
  | 0x2 => .f3 .jp
  | 0x3 => .f1 .di
  | 0x4 => .f3 .cp
  | 0x5 => .f1 .pushPSW
  | 0x6 => .f2 .ori
  | 0x7 => .f1 .rst6
  | 0x8 => .f1 .rm
  | 0x9 => .f1 .sphl
  | 0xA => .f3 .jm
  | 0xB => .f1 .ei
  | 0xC => .f3 .cm
  | 0xD => .f1 .failStopFD
  | 0xE => .f2 .cpi
  | _ => .f1 .rst7

/-- The opcode map, an explicit entry for each of the 256 bytes (R74, R80, R94): row = high digit, column = low
digit. (The last column and row are what is left of a digit 0 to 15.) -/
def opcodeMap (op : Byte) : Entry :=
  let lo := op.toNat % 16
  match op.toNat / 16 with
  | 0x0 => opcodeRow0 lo
  | 0x1 => opcodeRow1 lo
  | 0x2 => opcodeRow2 lo
  | 0x3 => opcodeRow3 lo
  | 0x4 => opcodeRow4 lo
  | 0x5 => opcodeRow5 lo
  | 0x6 => opcodeRow6 lo
  | 0x7 => opcodeRow7 lo
  | 0x8 => opcodeRow8 lo
  | 0x9 => opcodeRow9 lo
  | 0xA => opcodeRowA lo
  | 0xB => opcodeRowB lo
  | 0xC => opcodeRowC lo
  | 0xD => opcodeRowD lo
  | 0xE => opcodeRowE lo
  | _ => opcodeRowF lo

/-- Why a byte string decodes to no instruction. No opcode byte is ever the reason (R94). -/
inductive DecodeError where
  /-- The byte string is empty. -/
  | noOpcode
  /-- The byte string ends before the operand bytes of this opcode. -/
  | missingOperand (op : Byte)
  deriving DecidableEq, Repr

/-- What decoding a byte string gives: an instruction and the bytes after it, or a rejection by name. -/
inductive Decoded where
  | instr (i : Instr) (rest : List Byte)
  | reject (e : DecodeError)
  deriving DecidableEq, Repr

/-- Take the operand bytes an entry asks for: `d8` or `p8` is byte 2, `d16` or `a16` is byte 3 ++ byte 2 (R70, R72). -/
def decodeEntry (op : Byte) : Entry → List Byte → Decoded
  | .f1 i, rest => .instr i rest
  | .f2 make, b2 :: rest => .instr (make b2) rest
  | .f3 make, b2 :: b3 :: rest => .instr (make (cat b3 b2)) rest
  | .f2 _, [] => .reject (.missingOperand op)
  | .f3 _, [_] => .reject (.missingOperand op)
  | .f3 _, [] => .reject (.missingOperand op)

/-- The decoder, total on byte strings (R83, R94). -/
def decode : List Byte → Decoded
  | [] => .reject .noOpcode
  | op :: rest => decodeEntry op (opcodeMap op) rest

/-- The bytes of an instruction word numbered as the opcode table numbers them: bit 0 is the least significant bit
of the first byte, the second byte is bits 15..8, the third 23..16. Bits from `nbits` on are zero, up to the
longest instruction, three bytes (R70). -/
def bytesOfTableWord (nbits w : Nat) : List Byte :=
  let v := w % 2 ^ nbits
  [BitVec.ofNat 8 v, BitVec.ofNat 8 (v / 2 ^ 8), BitVec.ofNat 8 (v / 2 ^ 16)]

/-- The instruction the decoder reads from a table word, operand bytes above it being zero. -/
def decodeTableWord (nbits w : Nat) : Option Instr :=
  match decode (bytesOfTableWord nbits w) with
  | .instr i _ => some i
  | .reject _ => none

/-! ## The encoder -/

/-- The 3-bit register codes (R21). -/
def Reg8.code : Reg8 → BitVec 3
  | .b => 0b000#3
  | .c => 0b001#3
  | .d => 0b010#3
  | .e => 0b011#3
  | .h => 0b100#3
  | .l => 0b101#3
  | .a => 0b111#3

/-- The 3-bit operand codes: M is 110 (R21). -/
def Opnd8.code : Opnd8 → BitVec 3
  | .reg r => r.code
  | .m => 0b110#3

/-- The 2-bit pair codes (R24). -/
def Pair.code : Pair → BitVec 2
  | .bc => 0b00#2
  | .de => 0b01#2
  | .hl => 0b10#2
  | .sp => 0b11#2

/-- The 3-bit condition codes (R71, R97). -/
def Cond.code : Cond → BitVec 3
  | .nz => 0b000#3
  | .z => 0b001#3
  | .nc => 0b010#3
  | .c => 0b011#3
  | .po => 0b100#3
  | .pe => 0b101#3
  | .p => 0b110#3
  | .m => 0b111#3

/-- The 3-bit ALU operation codes (R71). -/
def AluOp.code : AluOp → BitVec 3
  | .add => 0b000#3
  | .adc => 0b001#3
  | .sub => 0b010#3
  | .sbb => 0b011#3
  | .ana => 0b100#3
  | .xra => 0b101#3
  | .ora => 0b110#3
  | .cmp => 0b111#3

/-- Layout `qqxxxyyy`: a quadrant and two 3-bit fields (R71). -/
def byte233 (q : BitVec 2) (x y : BitVec 3) : Byte := q ++ x ++ y

/-- Layout `qqppzzzz`: a quadrant, a pair code and four fixed bits (R71). -/
def byte224 (q p : BitVec 2) (z : BitVec 4) : Byte := q ++ p ++ z

/-- Format F3: opcode, low byte, high byte (R70). -/
def encodeF3 (op : Byte) (w : Word) : List Byte := [op, lo8 w, hi8 w]

/-- The bytes of an instruction (R70 to R72, R75). -/
def encode : Instr → List Byte
  | .nop => [0x00#8]
  | .lxiB d16 => encodeF3 (byte224 0b00 (Pair.code .bc) 0b0001) d16
  | .staxB => [byte224 0b00 (Pair.code .bc) 0b0010]
  | .inxB => [byte224 0b00 (Pair.code .bc) 0b0011]
  | .inrB => [byte233 0b00 (Reg8.code .b) 0b100]
  | .dcrB => [byte233 0b00 (Reg8.code .b) 0b101]
  | .mviB d8 => [byte233 0b00 (Reg8.code .b) 0b110, d8]
  | .rlc => [0x07#8]
  | .nopAlias08 => [0x08#8]
  | .dadB => [byte224 0b00 (Pair.code .bc) 0b1001]
  | .ldaxB => [byte224 0b00 (Pair.code .bc) 0b1010]
  | .dcxB => [byte224 0b00 (Pair.code .bc) 0b1011]
  | .inrC => [byte233 0b00 (Reg8.code .c) 0b100]
  | .dcrC => [byte233 0b00 (Reg8.code .c) 0b101]
  | .mviC d8 => [byte233 0b00 (Reg8.code .c) 0b110, d8]
  | .rrc => [0x0F#8]
  | .nopAlias10 => [0x10#8]
  | .lxiD d16 => encodeF3 (byte224 0b00 (Pair.code .de) 0b0001) d16
  | .staxD => [byte224 0b00 (Pair.code .de) 0b0010]
  | .inxD => [byte224 0b00 (Pair.code .de) 0b0011]
  | .inrD => [byte233 0b00 (Reg8.code .d) 0b100]
  | .dcrD => [byte233 0b00 (Reg8.code .d) 0b101]
  | .mviD d8 => [byte233 0b00 (Reg8.code .d) 0b110, d8]
  | .ral => [0x17#8]
  | .nopAlias18 => [0x18#8]
  | .dadD => [byte224 0b00 (Pair.code .de) 0b1001]
  | .ldaxD => [byte224 0b00 (Pair.code .de) 0b1010]
  | .dcxD => [byte224 0b00 (Pair.code .de) 0b1011]
  | .inrE => [byte233 0b00 (Reg8.code .e) 0b100]
  | .dcrE => [byte233 0b00 (Reg8.code .e) 0b101]
  | .mviE d8 => [byte233 0b00 (Reg8.code .e) 0b110, d8]
  | .rar => [0x1F#8]
  | .rim => [0x20#8]
  | .lxiH d16 => encodeF3 (byte224 0b00 (Pair.code .hl) 0b0001) d16
  | .shld a16 => encodeF3 0x22#8 a16
  | .inxH => [byte224 0b00 (Pair.code .hl) 0b0011]
  | .inrH => [byte233 0b00 (Reg8.code .h) 0b100]
  | .dcrH => [byte233 0b00 (Reg8.code .h) 0b101]
  | .mviH d8 => [byte233 0b00 (Reg8.code .h) 0b110, d8]
  | .daa => [0x27#8]
  | .nopAlias28 => [0x28#8]
  | .dadH => [byte224 0b00 (Pair.code .hl) 0b1001]
  | .lhld a16 => encodeF3 0x2A#8 a16
  | .dcxH => [byte224 0b00 (Pair.code .hl) 0b1011]
  | .inrL => [byte233 0b00 (Reg8.code .l) 0b100]
  | .dcrL => [byte233 0b00 (Reg8.code .l) 0b101]
  | .mviL d8 => [byte233 0b00 (Reg8.code .l) 0b110, d8]
  | .cma => [0x2F#8]
  | .sim => [0x30#8]
  | .lxiSP d16 => encodeF3 (byte224 0b00 (Pair.code .sp) 0b0001) d16
  | .sta a16 => encodeF3 0x32#8 a16
  | .inxSP => [byte224 0b00 (Pair.code .sp) 0b0011]
  | .inrM => [byte233 0b00 Opnd8.m.code 0b100]
  | .dcrM => [byte233 0b00 Opnd8.m.code 0b101]
  | .mviM d8 => [byte233 0b00 Opnd8.m.code 0b110, d8]
  | .stc => [0x37#8]
  | .nopAlias38 => [0x38#8]
  | .dadSP => [byte224 0b00 (Pair.code .sp) 0b1001]
  | .lda a16 => encodeF3 0x3A#8 a16
  | .dcxSP => [byte224 0b00 (Pair.code .sp) 0b1011]
  | .inrA => [byte233 0b00 (Reg8.code .a) 0b100]
  | .dcrA => [byte233 0b00 (Reg8.code .a) 0b101]
  | .mviA d8 => [byte233 0b00 (Reg8.code .a) 0b110, d8]
  | .cmc => [0x3F#8]
  | .movBB => [byte233 0b01 (Reg8.code .b) (Reg8.code .b)]
  | .movBC => [byte233 0b01 (Reg8.code .b) (Reg8.code .c)]
  | .movBD => [byte233 0b01 (Reg8.code .b) (Reg8.code .d)]
  | .movBE => [byte233 0b01 (Reg8.code .b) (Reg8.code .e)]
  | .movBH => [byte233 0b01 (Reg8.code .b) (Reg8.code .h)]
  | .movBL => [byte233 0b01 (Reg8.code .b) (Reg8.code .l)]
  | .movBM => [byte233 0b01 (Reg8.code .b) Opnd8.m.code]
  | .movBA => [byte233 0b01 (Reg8.code .b) (Reg8.code .a)]
  | .movCB => [byte233 0b01 (Reg8.code .c) (Reg8.code .b)]
  | .movCC => [byte233 0b01 (Reg8.code .c) (Reg8.code .c)]
  | .movCD => [byte233 0b01 (Reg8.code .c) (Reg8.code .d)]
  | .movCE => [byte233 0b01 (Reg8.code .c) (Reg8.code .e)]
  | .movCH => [byte233 0b01 (Reg8.code .c) (Reg8.code .h)]
  | .movCL => [byte233 0b01 (Reg8.code .c) (Reg8.code .l)]
  | .movCM => [byte233 0b01 (Reg8.code .c) Opnd8.m.code]
  | .movCA => [byte233 0b01 (Reg8.code .c) (Reg8.code .a)]
  | .movDB => [byte233 0b01 (Reg8.code .d) (Reg8.code .b)]
  | .movDC => [byte233 0b01 (Reg8.code .d) (Reg8.code .c)]
  | .movDD => [byte233 0b01 (Reg8.code .d) (Reg8.code .d)]
  | .movDE => [byte233 0b01 (Reg8.code .d) (Reg8.code .e)]
  | .movDH => [byte233 0b01 (Reg8.code .d) (Reg8.code .h)]
  | .movDL => [byte233 0b01 (Reg8.code .d) (Reg8.code .l)]
  | .movDM => [byte233 0b01 (Reg8.code .d) Opnd8.m.code]
  | .movDA => [byte233 0b01 (Reg8.code .d) (Reg8.code .a)]
  | .movEB => [byte233 0b01 (Reg8.code .e) (Reg8.code .b)]
  | .movEC => [byte233 0b01 (Reg8.code .e) (Reg8.code .c)]
  | .movED => [byte233 0b01 (Reg8.code .e) (Reg8.code .d)]
  | .movEE => [byte233 0b01 (Reg8.code .e) (Reg8.code .e)]
  | .movEH => [byte233 0b01 (Reg8.code .e) (Reg8.code .h)]
  | .movEL => [byte233 0b01 (Reg8.code .e) (Reg8.code .l)]
  | .movEM => [byte233 0b01 (Reg8.code .e) Opnd8.m.code]
  | .movEA => [byte233 0b01 (Reg8.code .e) (Reg8.code .a)]
  | .movHB => [byte233 0b01 (Reg8.code .h) (Reg8.code .b)]
  | .movHC => [byte233 0b01 (Reg8.code .h) (Reg8.code .c)]
  | .movHD => [byte233 0b01 (Reg8.code .h) (Reg8.code .d)]
  | .movHE => [byte233 0b01 (Reg8.code .h) (Reg8.code .e)]
  | .movHH => [byte233 0b01 (Reg8.code .h) (Reg8.code .h)]
  | .movHL => [byte233 0b01 (Reg8.code .h) (Reg8.code .l)]
  | .movHM => [byte233 0b01 (Reg8.code .h) Opnd8.m.code]
  | .movHA => [byte233 0b01 (Reg8.code .h) (Reg8.code .a)]
  | .movLB => [byte233 0b01 (Reg8.code .l) (Reg8.code .b)]
  | .movLC => [byte233 0b01 (Reg8.code .l) (Reg8.code .c)]
  | .movLD => [byte233 0b01 (Reg8.code .l) (Reg8.code .d)]
  | .movLE => [byte233 0b01 (Reg8.code .l) (Reg8.code .e)]
  | .movLH => [byte233 0b01 (Reg8.code .l) (Reg8.code .h)]
  | .movLL => [byte233 0b01 (Reg8.code .l) (Reg8.code .l)]
  | .movLM => [byte233 0b01 (Reg8.code .l) Opnd8.m.code]
  | .movLA => [byte233 0b01 (Reg8.code .l) (Reg8.code .a)]
  | .movMB => [byte233 0b01 Opnd8.m.code (Reg8.code .b)]
  | .movMC => [byte233 0b01 Opnd8.m.code (Reg8.code .c)]
  | .movMD => [byte233 0b01 Opnd8.m.code (Reg8.code .d)]
  | .movME => [byte233 0b01 Opnd8.m.code (Reg8.code .e)]
  | .movMH => [byte233 0b01 Opnd8.m.code (Reg8.code .h)]
  | .movML => [byte233 0b01 Opnd8.m.code (Reg8.code .l)]
  | .hlt => [0x76#8]
  | .movMA => [byte233 0b01 Opnd8.m.code (Reg8.code .a)]
  | .movAB => [byte233 0b01 (Reg8.code .a) (Reg8.code .b)]
  | .movAC => [byte233 0b01 (Reg8.code .a) (Reg8.code .c)]
  | .movAD => [byte233 0b01 (Reg8.code .a) (Reg8.code .d)]
  | .movAE => [byte233 0b01 (Reg8.code .a) (Reg8.code .e)]
  | .movAH => [byte233 0b01 (Reg8.code .a) (Reg8.code .h)]
  | .movAL => [byte233 0b01 (Reg8.code .a) (Reg8.code .l)]
  | .movAM => [byte233 0b01 (Reg8.code .a) Opnd8.m.code]
  | .movAA => [byte233 0b01 (Reg8.code .a) (Reg8.code .a)]
  | .addB => [byte233 0b10 (AluOp.code .add) (Reg8.code .b)]
  | .addC => [byte233 0b10 (AluOp.code .add) (Reg8.code .c)]
  | .addD => [byte233 0b10 (AluOp.code .add) (Reg8.code .d)]
  | .addE => [byte233 0b10 (AluOp.code .add) (Reg8.code .e)]
  | .addH => [byte233 0b10 (AluOp.code .add) (Reg8.code .h)]
  | .addL => [byte233 0b10 (AluOp.code .add) (Reg8.code .l)]
  | .addM => [byte233 0b10 (AluOp.code .add) Opnd8.m.code]
  | .addA => [byte233 0b10 (AluOp.code .add) (Reg8.code .a)]
  | .adcB => [byte233 0b10 (AluOp.code .adc) (Reg8.code .b)]
  | .adcC => [byte233 0b10 (AluOp.code .adc) (Reg8.code .c)]
  | .adcD => [byte233 0b10 (AluOp.code .adc) (Reg8.code .d)]
  | .adcE => [byte233 0b10 (AluOp.code .adc) (Reg8.code .e)]
  | .adcH => [byte233 0b10 (AluOp.code .adc) (Reg8.code .h)]
  | .adcL => [byte233 0b10 (AluOp.code .adc) (Reg8.code .l)]
  | .adcM => [byte233 0b10 (AluOp.code .adc) Opnd8.m.code]
  | .adcA => [byte233 0b10 (AluOp.code .adc) (Reg8.code .a)]
  | .subB => [byte233 0b10 (AluOp.code .sub) (Reg8.code .b)]
  | .subC => [byte233 0b10 (AluOp.code .sub) (Reg8.code .c)]
  | .subD => [byte233 0b10 (AluOp.code .sub) (Reg8.code .d)]
  | .subE => [byte233 0b10 (AluOp.code .sub) (Reg8.code .e)]
  | .subH => [byte233 0b10 (AluOp.code .sub) (Reg8.code .h)]
  | .subL => [byte233 0b10 (AluOp.code .sub) (Reg8.code .l)]
  | .subM => [byte233 0b10 (AluOp.code .sub) Opnd8.m.code]
  | .subA => [byte233 0b10 (AluOp.code .sub) (Reg8.code .a)]
  | .sbbB => [byte233 0b10 (AluOp.code .sbb) (Reg8.code .b)]
  | .sbbC => [byte233 0b10 (AluOp.code .sbb) (Reg8.code .c)]
  | .sbbD => [byte233 0b10 (AluOp.code .sbb) (Reg8.code .d)]
  | .sbbE => [byte233 0b10 (AluOp.code .sbb) (Reg8.code .e)]
  | .sbbH => [byte233 0b10 (AluOp.code .sbb) (Reg8.code .h)]
  | .sbbL => [byte233 0b10 (AluOp.code .sbb) (Reg8.code .l)]
  | .sbbM => [byte233 0b10 (AluOp.code .sbb) Opnd8.m.code]
  | .sbbA => [byte233 0b10 (AluOp.code .sbb) (Reg8.code .a)]
  | .anaB => [byte233 0b10 (AluOp.code .ana) (Reg8.code .b)]
  | .anaC => [byte233 0b10 (AluOp.code .ana) (Reg8.code .c)]
  | .anaD => [byte233 0b10 (AluOp.code .ana) (Reg8.code .d)]
  | .anaE => [byte233 0b10 (AluOp.code .ana) (Reg8.code .e)]
  | .anaH => [byte233 0b10 (AluOp.code .ana) (Reg8.code .h)]
  | .anaL => [byte233 0b10 (AluOp.code .ana) (Reg8.code .l)]
  | .anaM => [byte233 0b10 (AluOp.code .ana) Opnd8.m.code]
  | .anaA => [byte233 0b10 (AluOp.code .ana) (Reg8.code .a)]
  | .xraB => [byte233 0b10 (AluOp.code .xra) (Reg8.code .b)]
  | .xraC => [byte233 0b10 (AluOp.code .xra) (Reg8.code .c)]
  | .xraD => [byte233 0b10 (AluOp.code .xra) (Reg8.code .d)]
  | .xraE => [byte233 0b10 (AluOp.code .xra) (Reg8.code .e)]
  | .xraH => [byte233 0b10 (AluOp.code .xra) (Reg8.code .h)]
  | .xraL => [byte233 0b10 (AluOp.code .xra) (Reg8.code .l)]
  | .xraM => [byte233 0b10 (AluOp.code .xra) Opnd8.m.code]
  | .xraA => [byte233 0b10 (AluOp.code .xra) (Reg8.code .a)]
  | .oraB => [byte233 0b10 (AluOp.code .ora) (Reg8.code .b)]
  | .oraC => [byte233 0b10 (AluOp.code .ora) (Reg8.code .c)]
  | .oraD => [byte233 0b10 (AluOp.code .ora) (Reg8.code .d)]
  | .oraE => [byte233 0b10 (AluOp.code .ora) (Reg8.code .e)]
  | .oraH => [byte233 0b10 (AluOp.code .ora) (Reg8.code .h)]
  | .oraL => [byte233 0b10 (AluOp.code .ora) (Reg8.code .l)]
  | .oraM => [byte233 0b10 (AluOp.code .ora) Opnd8.m.code]
  | .oraA => [byte233 0b10 (AluOp.code .ora) (Reg8.code .a)]
  | .cmpB => [byte233 0b10 (AluOp.code .cmp) (Reg8.code .b)]
  | .cmpC => [byte233 0b10 (AluOp.code .cmp) (Reg8.code .c)]
  | .cmpD => [byte233 0b10 (AluOp.code .cmp) (Reg8.code .d)]
  | .cmpE => [byte233 0b10 (AluOp.code .cmp) (Reg8.code .e)]
  | .cmpH => [byte233 0b10 (AluOp.code .cmp) (Reg8.code .h)]
  | .cmpL => [byte233 0b10 (AluOp.code .cmp) (Reg8.code .l)]
  | .cmpM => [byte233 0b10 (AluOp.code .cmp) Opnd8.m.code]
  | .cmpA => [byte233 0b10 (AluOp.code .cmp) (Reg8.code .a)]
  | .rnz => [byte233 0b11 (Cond.code .nz) 0b000]
  | .popB => [byte224 0b11 (Pair.code .bc) 0b0001]
  | .jnz a16 => encodeF3 (byte233 0b11 (Cond.code .nz) 0b010) a16
  | .jmp a16 => encodeF3 0xC3#8 a16
  | .cnz a16 => encodeF3 (byte233 0b11 (Cond.code .nz) 0b100) a16
  | .pushB => [byte224 0b11 (Pair.code .bc) 0b0101]
  | .adi d8 => [byte233 0b11 (AluOp.code .add) 0b110, d8]
  | .rst0 => [byte233 0b11 0 0b111]
  | .rz => [byte233 0b11 (Cond.code .z) 0b000]
  | .ret => [0xC9#8]
  | .jz a16 => encodeF3 (byte233 0b11 (Cond.code .z) 0b010) a16
  | .failStopCB => [0xCB#8]
  | .cz a16 => encodeF3 (byte233 0b11 (Cond.code .z) 0b100) a16
  | .call a16 => encodeF3 0xCD#8 a16
  | .aci d8 => [byte233 0b11 (AluOp.code .adc) 0b110, d8]
  | .rst1 => [byte233 0b11 1 0b111]
  | .rnc => [byte233 0b11 (Cond.code .nc) 0b000]
  | .popD => [byte224 0b11 (Pair.code .de) 0b0001]
  | .jnc a16 => encodeF3 (byte233 0b11 (Cond.code .nc) 0b010) a16
  | .outPort p8 => [0xD3#8, p8]
  | .cnc a16 => encodeF3 (byte233 0b11 (Cond.code .nc) 0b100) a16
  | .pushD => [byte224 0b11 (Pair.code .de) 0b0101]
  | .sui d8 => [byte233 0b11 (AluOp.code .sub) 0b110, d8]
  | .rst2 => [byte233 0b11 2 0b111]
  | .rc => [byte233 0b11 (Cond.code .c) 0b000]
  | .failStopD9 => [0xD9#8]
  | .jc a16 => encodeF3 (byte233 0b11 (Cond.code .c) 0b010) a16
  | .inPort p8 => [0xDB#8, p8]
  | .cc a16 => encodeF3 (byte233 0b11 (Cond.code .c) 0b100) a16
  | .failStopDD => [0xDD#8]
  | .sbi d8 => [byte233 0b11 (AluOp.code .sbb) 0b110, d8]
  | .rst3 => [byte233 0b11 3 0b111]
  | .rpo => [byte233 0b11 (Cond.code .po) 0b000]
  | .popH => [byte224 0b11 (Pair.code .hl) 0b0001]
  | .jpo a16 => encodeF3 (byte233 0b11 (Cond.code .po) 0b010) a16
  | .xthl => [0xE3#8]
  | .cpo a16 => encodeF3 (byte233 0b11 (Cond.code .po) 0b100) a16
  | .pushH => [byte224 0b11 (Pair.code .hl) 0b0101]
  | .ani d8 => [byte233 0b11 (AluOp.code .ana) 0b110, d8]
  | .rst4 => [byte233 0b11 4 0b111]
  | .rpe => [byte233 0b11 (Cond.code .pe) 0b000]
  | .pchl => [0xE9#8]
  | .jpe a16 => encodeF3 (byte233 0b11 (Cond.code .pe) 0b010) a16
  | .xchg => [0xEB#8]
  | .cpe a16 => encodeF3 (byte233 0b11 (Cond.code .pe) 0b100) a16
  | .failStopED => [0xED#8]
  | .xri d8 => [byte233 0b11 (AluOp.code .xra) 0b110, d8]
  | .rst5 => [byte233 0b11 5 0b111]
  | .rp => [byte233 0b11 (Cond.code .p) 0b000]
  | .popPSW => [byte224 0b11 0b11 0b0001]
  | .jp a16 => encodeF3 (byte233 0b11 (Cond.code .p) 0b010) a16
  | .di => [0xF3#8]
  | .cp a16 => encodeF3 (byte233 0b11 (Cond.code .p) 0b100) a16
  | .pushPSW => [byte224 0b11 0b11 0b0101]
  | .ori d8 => [byte233 0b11 (AluOp.code .ora) 0b110, d8]
  | .rst6 => [byte233 0b11 6 0b111]
  | .rm => [byte233 0b11 (Cond.code .m) 0b000]
  | .sphl => [0xF9#8]
  | .jm a16 => encodeF3 (byte233 0b11 (Cond.code .m) 0b010) a16
  | .ei => [0xFB#8]
  | .cm a16 => encodeF3 (byte233 0b11 (Cond.code .m) 0b100) a16
  | .failStopFD => [0xFD#8]
  | .cpi d8 => [byte233 0b11 (AluOp.code .cmp) 0b110, d8]
  | .rst7 => [byte233 0b11 7 0b111]

end Sys2Proof
end

