-- ==== Sys2Proof/Machine/Ops.lean ====
section
/-! DEFINITION. The shared operations over memory, ports, the stack and the program counter, the instruction fetch,
and the one exceptional event. None can fail (R9, R50, R51, R242). -/

namespace Sys2Proof.Machine

/-- What an instruction or a step answers. -/
abbrev Outcome := Host.Outcome State Fault Refusal

/-! ## Memory and ports -/

/-- `MemRead(addr, 1)` (R9, R50). -/
def State.readMem (s : State) (addr : Word) : Byte := Memory.read s.mem addr.toNat

/-- `MemWrite(addr, 1, v)` (R9, R51). -/
def State.writeMem (s : State) (addr : Word) (v : Byte) : State :=
  { s with mem := Memory.write s.mem addr.toNat v }

/-- `MemRead(addr, 2)`: low byte at `addr`, high byte at `addr + 1` modulo 65536 (R9, R53, R55). -/
def State.readMem16 (s : State) (addr : Word) : Word := cat (s.readMem (addr + 1)) (s.readMem addr)

/-- `MemWrite(addr, 2, v)`: low byte first (R9, R53, R55, R61). -/
def State.writeMem16 (s : State) (addr : Word) (v : Word) : State :=
  (s.writeMem addr (lo8 v)).writeMem (addr + 1) (hi8 v)

/-- `IoRead(p)` (R9, R54). -/
def State.readPort (s : State) (p : Byte) : Byte := Memory.read s.io p.toNat

/-- `IoWrite(p, v)` (R9, R54). -/
def State.writePort (s : State) (p : Byte) (v : Byte) : State :=
  { s with io := Memory.write s.io p.toNat v }

/-! ## Fetch -/

/-- `Fetch8()`: the byte at PC; PC advances by one modulo 65536 (R10, R92). -/
def State.fetch8 (s : State) : Byte × State := (s.readMem s.pc, { s with pc := s.pc + 1 })

/-- `Fetch16()`: low byte, then high byte (R10, R93). -/
def State.fetch16 (s : State) : Word × State :=
  let lo := s.fetch8
  let hi := lo.2.fetch8
  (cat hi.1 lo.1, hi.2)

/-- Fetch the operand bytes an entry of the opcode map asks for (R72). -/
def State.fetchOperands (s : State) : Entry → Instr × State
  | .f1 i => (i, s)
  | .f2 make => let d := s.fetch8; (make d.1, d.2)
  | .f3 make => let w := s.fetch16; (make w.1, w.2)

/-- Fetch a whole instruction: the opcode byte, PC advanced before dispatch, then the operand bytes, before the
instruction has any effect (R91, R72, R26). -/
def State.fetchInstr (s : State) : Instr × State :=
  let op := s.fetch8
  op.2.fetchOperands (opcodeMap op.1)

/-! ## The stack -/

/-- `Push16(w)` (R98). -/
def State.push16 (s : State) (w : Word) : State :=
  let s := { s with sp := s.sp - 1 }
  let s := s.writeMem s.sp (hi8 w)
  let s := { s with sp := s.sp - 1 }
  s.writeMem s.sp (lo8 w)

/-- `Pop16()` (R99). -/
def State.pop16 (s : State) : Word × State :=
  let l := s.readMem s.sp
  let s := { s with sp := s.sp + 1 }
  let h := s.readMem s.sp
  let s := { s with sp := s.sp + 1 }
  (cat h l, s)

/-! ## Control transfer -/

/-- `pc <- t` (R8). -/
def State.jump (s : State) (t : Word) : State := { s with pc := t }

/-- Push the return address, which is PC past the whole instruction, then go to the target (R192, R196, C4). -/
def State.call (s : State) (t : Word) : State := (s.push16 s.pc).jump t

/-- `pc <- Pop16()` (R194). -/
def State.ret (s : State) : State := s.pop16.2.jump s.pop16.1

/-! ## The exceptional event -/

/-- `raise IllegalOpcode`, the fail-stop: `halted` and `illegal` are set and nothing else changes; PC stays past the
offending byte (R11, R240, R247). Nothing is saved and there is no return from it (R248): the way out is the
host's `reset` (Machine/HostOps.lean). -/
def State.raiseIllegalOpcode (s : State) : State := { s with halted := true, illegal := true }

/-- What an unassigned opcode byte does: nothing if the parameter `NOPALIAS` holds it, else the fail-stop
(R80, R224, R225). -/
def State.unassigned (s : State) (u : Config.Unassigned) : State :=
  if s.nopAlias.has u then s else s.raiseIllegalOpcode

end Sys2Proof.Machine
end

