-- ==== Sys2Proof/Machine/Operands.lean ====
section
/-! DEFINITION. Every operand form: registers, the register-or-memory operand, register pairs and SP, conditions,
restart targets (R8, R21, R23, R24, R96, R97, R196). -/

namespace Sys2Proof.Machine

/-- `x[r]` (R8, R20). -/
def State.reg (s : State) : Reg8 → Byte
  | .b => s.b
  | .c => s.c
  | .d => s.d
  | .e => s.e
  | .h => s.h
  | .l => s.l
  | .a => s.a

/-- `x[r] <- v` (R8). -/
def State.setReg (s : State) (r : Reg8) (v : Byte) : State :=
  match r with
  | .b => { s with b := v }
  | .c => { s with c := v }
  | .d => { s with d := v }
  | .e => { s with e := v }
  | .h => { s with h := v }
  | .l => { s with l := v }
  | .a => { s with a := v }

/-- `rp[p]`: a view of two registers, high byte first, or SP (R8, R23). -/
def State.pair (s : State) : Pair → Word
  | .bc => cat s.b s.c
  | .de => cat s.d s.e
  | .hl => cat s.h s.l
  | .sp => s.sp

/-- `rp[p] <- v`: both halves in one write, or SP (R8, R23). -/
def State.setPair (s : State) (p : Pair) (v : Word) : State :=
  match p with
  | .bc => { s with b := hi8 v, c := lo8 v }
  | .de => { s with d := hi8 v, e := lo8 v }
  | .hl => { s with h := hi8 v, l := lo8 v }
  | .sp => { s with sp := v }

/-- `Rd8(s)`: a register, or for M the byte at `rp[HL]` (R96). -/
def State.rd8 (s : State) : Opnd8 → Byte
  | .reg r => s.reg r
  | .m => s.readMem (s.pair .hl)

/-- `Wr8(d, v)` (R96). -/
def State.wr8 (s : State) (o : Opnd8) (v : Byte) : State :=
  match o with
  | .reg r => s.setReg r v
  | .m => s.writeMem (s.pair .hl) v

/-- `cond(c)`: exactly one flag is read (R97). -/
def State.cond (s : State) : Cond → Bool
  | .nz => !s.flags.z
  | .z => s.flags.z
  | .nc => !s.flags.cy
  | .c => s.flags.cy
  | .po => !s.flags.p
  | .pe => s.flags.p
  | .p => !s.flags.s
  | .m => s.flags.s

/-- `RST_STRIDE` (R5, decision D8). -/
def rstStride : Nat := 8

/-- The target of `RST n`, zero-extended to 16 bits (R72, R196). -/
def rstTarget (n : Fin 8) : Word := BitVec.ofNat 16 (rstStride * n.val)

end Sys2Proof.Machine
end

