-- ==== Sys2Proof/Machine/Transfer.lean ====
section
/-! DEFINITION. The data transfer instructions (R100 to R112). None changes a flag. Each meaning runs on the state
whose PC is already past the whole instruction (R26, R91; log 3). -/

namespace Sys2Proof.Machine

/-- Copy one register to another (R100). -/
def movReg (dst src : Reg8) (s : State) : State := s.setReg dst (s.reg src)

/-- Load a register from the byte at HL (R101). -/
def movFromM (dst : Reg8) (s : State) : State := s.setReg dst (s.rd8 .m)

/-- Store a register to the byte at HL (R102). -/
def movToM (src : Reg8) (s : State) : State := s.wr8 .m (s.reg src)

/-- Load A from the byte addressed by a pair (R110). -/
def loadAFromPair (p : Pair) (s : State) : State := s.setReg .a (s.readMem (s.pair p))

/-- Store A to the byte addressed by a pair (R111). -/
def storeAToPair (p : Pair) (s : State) : State := s.writeMem (s.pair p) s.a

/-- `MOV B,B`, opcode 0x40 (R100). -/
def execMovBB (s : State) : Outcome :=
  .next (movReg .b .b s)

/-- `MOV B,C`, opcode 0x41 (R100). -/
def execMovBC (s : State) : Outcome :=
  .next (movReg .b .c s)

/-- `MOV B,D`, opcode 0x42 (R100). -/
def execMovBD (s : State) : Outcome :=
  .next (movReg .b .d s)

/-- `MOV B,E`, opcode 0x43 (R100). -/
def execMovBE (s : State) : Outcome :=
  .next (movReg .b .e s)

/-- `MOV B,H`, opcode 0x44 (R100). -/
def execMovBH (s : State) : Outcome :=
  .next (movReg .b .h s)

/-- `MOV B,L`, opcode 0x45 (R100). -/
def execMovBL (s : State) : Outcome :=
  .next (movReg .b .l s)

/-- `MOV B,M`, opcode 0x46 (R101). -/
def execMovBM (s : State) : Outcome :=
  .next (movFromM .b s)

/-- `MOV B,A`, opcode 0x47 (R100). -/
def execMovBA (s : State) : Outcome :=
  .next (movReg .b .a s)

/-- `MOV C,B`, opcode 0x48 (R100). -/
def execMovCB (s : State) : Outcome :=
  .next (movReg .c .b s)

/-- `MOV C,C`, opcode 0x49 (R100). -/
def execMovCC (s : State) : Outcome :=
  .next (movReg .c .c s)

/-- `MOV C,D`, opcode 0x4A (R100). -/
def execMovCD (s : State) : Outcome :=
  .next (movReg .c .d s)

/-- `MOV C,E`, opcode 0x4B (R100). -/
def execMovCE (s : State) : Outcome :=
  .next (movReg .c .e s)

/-- `MOV C,H`, opcode 0x4C (R100). -/
def execMovCH (s : State) : Outcome :=
  .next (movReg .c .h s)

/-- `MOV C,L`, opcode 0x4D (R100). -/
def execMovCL (s : State) : Outcome :=
  .next (movReg .c .l s)

/-- `MOV C,M`, opcode 0x4E (R101). -/
def execMovCM (s : State) : Outcome :=
  .next (movFromM .c s)

/-- `MOV C,A`, opcode 0x4F (R100). -/
def execMovCA (s : State) : Outcome :=
  .next (movReg .c .a s)

/-- `MOV D,B`, opcode 0x50 (R100). -/
def execMovDB (s : State) : Outcome :=
  .next (movReg .d .b s)

/-- `MOV D,C`, opcode 0x51 (R100). -/
def execMovDC (s : State) : Outcome :=
  .next (movReg .d .c s)

/-- `MOV D,D`, opcode 0x52 (R100). -/
def execMovDD (s : State) : Outcome :=
  .next (movReg .d .d s)

/-- `MOV D,E`, opcode 0x53 (R100). -/
def execMovDE (s : State) : Outcome :=
  .next (movReg .d .e s)

/-- `MOV D,H`, opcode 0x54 (R100). -/
def execMovDH (s : State) : Outcome :=
  .next (movReg .d .h s)

/-- `MOV D,L`, opcode 0x55 (R100). -/
def execMovDL (s : State) : Outcome :=
  .next (movReg .d .l s)

/-- `MOV D,M`, opcode 0x56 (R101). -/
def execMovDM (s : State) : Outcome :=
  .next (movFromM .d s)

/-- `MOV D,A`, opcode 0x57 (R100). -/
def execMovDA (s : State) : Outcome :=
  .next (movReg .d .a s)

/-- `MOV E,B`, opcode 0x58 (R100). -/
def execMovEB (s : State) : Outcome :=
  .next (movReg .e .b s)

/-- `MOV E,C`, opcode 0x59 (R100). -/
def execMovEC (s : State) : Outcome :=
  .next (movReg .e .c s)

/-- `MOV E,D`, opcode 0x5A (R100). -/
def execMovED (s : State) : Outcome :=
  .next (movReg .e .d s)

/-- `MOV E,E`, opcode 0x5B (R100). -/
def execMovEE (s : State) : Outcome :=
  .next (movReg .e .e s)

/-- `MOV E,H`, opcode 0x5C (R100). -/
def execMovEH (s : State) : Outcome :=
  .next (movReg .e .h s)

/-- `MOV E,L`, opcode 0x5D (R100). -/
def execMovEL (s : State) : Outcome :=
  .next (movReg .e .l s)

/-- `MOV E,M`, opcode 0x5E (R101). -/
def execMovEM (s : State) : Outcome :=
  .next (movFromM .e s)

/-- `MOV E,A`, opcode 0x5F (R100). -/
def execMovEA (s : State) : Outcome :=
  .next (movReg .e .a s)

/-- `MOV H,B`, opcode 0x60 (R100). -/
def execMovHB (s : State) : Outcome :=
  .next (movReg .h .b s)

/-- `MOV H,C`, opcode 0x61 (R100). -/
def execMovHC (s : State) : Outcome :=
  .next (movReg .h .c s)

/-- `MOV H,D`, opcode 0x62 (R100). -/
def execMovHD (s : State) : Outcome :=
  .next (movReg .h .d s)

/-- `MOV H,E`, opcode 0x63 (R100). -/
def execMovHE (s : State) : Outcome :=
  .next (movReg .h .e s)

/-- `MOV H,H`, opcode 0x64 (R100). -/
def execMovHH (s : State) : Outcome :=
  .next (movReg .h .h s)

/-- `MOV H,L`, opcode 0x65 (R100). -/
def execMovHL (s : State) : Outcome :=
  .next (movReg .h .l s)

/-- `MOV H,M`, opcode 0x66 (R101). -/
def execMovHM (s : State) : Outcome :=
  .next (movFromM .h s)

/-- `MOV H,A`, opcode 0x67 (R100). -/
def execMovHA (s : State) : Outcome :=
  .next (movReg .h .a s)

/-- `MOV L,B`, opcode 0x68 (R100). -/
def execMovLB (s : State) : Outcome :=
  .next (movReg .l .b s)

/-- `MOV L,C`, opcode 0x69 (R100). -/
def execMovLC (s : State) : Outcome :=
  .next (movReg .l .c s)

/-- `MOV L,D`, opcode 0x6A (R100). -/
def execMovLD (s : State) : Outcome :=
  .next (movReg .l .d s)

/-- `MOV L,E`, opcode 0x6B (R100). -/
def execMovLE (s : State) : Outcome :=
  .next (movReg .l .e s)

/-- `MOV L,H`, opcode 0x6C (R100). -/
def execMovLH (s : State) : Outcome :=
  .next (movReg .l .h s)

/-- `MOV L,L`, opcode 0x6D (R100). -/
def execMovLL (s : State) : Outcome :=
  .next (movReg .l .l s)

/-- `MOV L,M`, opcode 0x6E (R101). -/
def execMovLM (s : State) : Outcome :=
  .next (movFromM .l s)

/-- `MOV L,A`, opcode 0x6F (R100). -/
def execMovLA (s : State) : Outcome :=
  .next (movReg .l .a s)

/-- `MOV M,B`, opcode 0x70 (R102). -/
def execMovMB (s : State) : Outcome :=
  .next (movToM .b s)

/-- `MOV M,C`, opcode 0x71 (R102). -/
def execMovMC (s : State) : Outcome :=
  .next (movToM .c s)

/-- `MOV M,D`, opcode 0x72 (R102). -/
def execMovMD (s : State) : Outcome :=
  .next (movToM .d s)

/-- `MOV M,E`, opcode 0x73 (R102). -/
def execMovME (s : State) : Outcome :=
  .next (movToM .e s)

/-- `MOV M,H`, opcode 0x74 (R102). -/
def execMovMH (s : State) : Outcome :=
  .next (movToM .h s)

/-- `MOV M,L`, opcode 0x75 (R102). -/
def execMovML (s : State) : Outcome :=
  .next (movToM .l s)

/-- `MOV M,A`, opcode 0x77 (R102). -/
def execMovMA (s : State) : Outcome :=
  .next (movToM .a s)

/-- `MOV A,B`, opcode 0x78 (R100). -/
def execMovAB (s : State) : Outcome :=
  .next (movReg .a .b s)

/-- `MOV A,C`, opcode 0x79 (R100). -/
def execMovAC (s : State) : Outcome :=
  .next (movReg .a .c s)

/-- `MOV A,D`, opcode 0x7A (R100). -/
def execMovAD (s : State) : Outcome :=
  .next (movReg .a .d s)

/-- `MOV A,E`, opcode 0x7B (R100). -/
def execMovAE (s : State) : Outcome :=
  .next (movReg .a .e s)

/-- `MOV A,H`, opcode 0x7C (R100). -/
def execMovAH (s : State) : Outcome :=
  .next (movReg .a .h s)

/-- `MOV A,L`, opcode 0x7D (R100). -/
def execMovAL (s : State) : Outcome :=
  .next (movReg .a .l s)

/-- `MOV A,M`, opcode 0x7E (R101). -/
def execMovAM (s : State) : Outcome :=
  .next (movFromM .a s)

/-- `MOV A,A`, opcode 0x7F (R100). -/
def execMovAA (s : State) : Outcome :=
  .next (movReg .a .a s)

/-- `MVI B,d8`, opcode 0x06 (R103). -/
def execMviB (d8 : Byte) (s : State) : Outcome :=
  .next (s.wr8 (.reg .b) d8)

/-- `MVI C,d8`, opcode 0x0E (R103). -/
def execMviC (d8 : Byte) (s : State) : Outcome :=
  .next (s.wr8 (.reg .c) d8)

/-- `MVI D,d8`, opcode 0x16 (R103). -/
def execMviD (d8 : Byte) (s : State) : Outcome :=
  .next (s.wr8 (.reg .d) d8)

/-- `MVI E,d8`, opcode 0x1E (R103). -/
def execMviE (d8 : Byte) (s : State) : Outcome :=
  .next (s.wr8 (.reg .e) d8)

/-- `MVI H,d8`, opcode 0x26 (R103). -/
def execMviH (d8 : Byte) (s : State) : Outcome :=
  .next (s.wr8 (.reg .h) d8)

/-- `MVI L,d8`, opcode 0x2E (R103). -/
def execMviL (d8 : Byte) (s : State) : Outcome :=
  .next (s.wr8 (.reg .l) d8)

/-- `MVI M,d8`, opcode 0x36 (R104). -/
def execMviM (d8 : Byte) (s : State) : Outcome :=
  .next (s.wr8 .m d8)

/-- `MVI A,d8`, opcode 0x3E (R103). -/
def execMviA (d8 : Byte) (s : State) : Outcome :=
  .next (s.wr8 (.reg .a) d8)

/-- `LXI B,d16`, opcode 0x01 (R105). -/
def execLxiB (d16 : Word) (s : State) : Outcome :=
  .next (s.setPair .bc d16)

/-- `LXI D,d16`, opcode 0x11 (R105). -/
def execLxiD (d16 : Word) (s : State) : Outcome :=
  .next (s.setPair .de d16)

/-- `LXI H,d16`, opcode 0x21 (R105). -/
def execLxiH (d16 : Word) (s : State) : Outcome :=
  .next (s.setPair .hl d16)

/-- `LXI SP,d16`, opcode 0x31 (R105). -/
def execLxiSP (d16 : Word) (s : State) : Outcome :=
  .next (s.setPair .sp d16)

/-- `LDA a16`, opcode 0x3A (R106). -/
def execLda (a16 : Word) (s : State) : Outcome :=
  .next (s.setReg .a (s.readMem a16))

/-- `STA a16`, opcode 0x32 (R107). -/
def execSta (a16 : Word) (s : State) : Outcome :=
  .next (s.writeMem a16 s.a)

/-- `LHLD a16`, opcode 0x2A (R108). -/
def execLhld (a16 : Word) (s : State) : Outcome :=
  .next (s.setPair .hl (s.readMem16 a16))

/-- `SHLD a16`, opcode 0x22 (R109). -/
def execShld (a16 : Word) (s : State) : Outcome :=
  .next (s.writeMem16 a16 (s.pair .hl))

/-- `LDAX B`, opcode 0x0A (R110). -/
def execLdaxB (s : State) : Outcome :=
  .next (loadAFromPair .bc s)

/-- `LDAX D`, opcode 0x1A (R110). -/
def execLdaxD (s : State) : Outcome :=
  .next (loadAFromPair .de s)

/-- `STAX B`, opcode 0x02 (R111). -/
def execStaxB (s : State) : Outcome :=
  .next (storeAToPair .bc s)

/-- `STAX D`, opcode 0x12 (R111). -/
def execStaxD (s : State) : Outcome :=
  .next (storeAToPair .de s)

/-- `XCHG`, opcode 0xEB (R112). -/
def execXchg (s : State) : Outcome :=
  .next ((s.setPair .hl (s.pair .de)).setPair .de (s.pair .hl))

end Sys2Proof.Machine
end

