-- ==== Sys2Proof/Machine/Arith.lean ====
section
/-! DEFINITION. The arithmetic instructions (R125 to R144). -/

namespace Sys2Proof.Machine

/-- `x[A] <- add8(x[A], v, cin)` (R125 to R128, R133, R134). -/
def addToA (v : Byte) (cin : Bool) (s : State) : State :=
  let r := add8 s.a v cin s.flags
  { s with a := r.1, flags := r.2 }

/-- `x[A] <- sub8(x[A], v, bin)` (R129 to R132, R135, R136). -/
def subFromA (v : Byte) (bin : Bool) (s : State) : State :=
  let r := sub8 s.a v bin s.flags
  { s with a := r.1, flags := r.2 }

/-- INR of a register or M: `add8(x, 1, 0)` with Carry saved and restored (R137, R138). -/
def increment (o : Opnd8) (s : State) : State :=
  let r := add8 (s.rd8 o) 0x01#8 false s.flags
  { s.wr8 o r.1 with flags := { r.2 with cy := s.flags.cy } }

/-- DCR of a register or M: `sub8(x, 1, 0)` with Carry saved and restored (R139, R140). -/
def decrement (o : Opnd8) (s : State) : State :=
  let r := sub8 (s.rd8 o) 0x01#8 false s.flags
  { s.wr8 o r.1 with flags := { r.2 with cy := s.flags.cy } }

/-- DAD: add a 16-bit value to HL; CY is the carry out of bit 15 and no other flag changes (R143). -/
def addToHL (w : Word) (s : State) : State :=
  let t := (s.pair .hl).toNat + w.toNat
  { s.setPair .hl (BitVec.ofNat 16 t) with flags := { s.flags with cy := decide (t > 65535) } }

/-- DAA (R144). -/
def adjustA (s : State) : State :=
  let r := decimalAdjust s.a s.flags
  { s with a := r.1, flags := r.2 }

/-- `ADD B`, opcode 0x80 (R125). -/
def execAddB (s : State) : Outcome :=
  .next (addToA (s.rd8 (.reg .b)) false s)

/-- `ADD C`, opcode 0x81 (R125). -/
def execAddC (s : State) : Outcome :=
  .next (addToA (s.rd8 (.reg .c)) false s)

/-- `ADD D`, opcode 0x82 (R125). -/
def execAddD (s : State) : Outcome :=
  .next (addToA (s.rd8 (.reg .d)) false s)

/-- `ADD E`, opcode 0x83 (R125). -/
def execAddE (s : State) : Outcome :=
  .next (addToA (s.rd8 (.reg .e)) false s)

/-- `ADD H`, opcode 0x84 (R125). -/
def execAddH (s : State) : Outcome :=
  .next (addToA (s.rd8 (.reg .h)) false s)

/-- `ADD L`, opcode 0x85 (R125). -/
def execAddL (s : State) : Outcome :=
  .next (addToA (s.rd8 (.reg .l)) false s)

/-- `ADD M`, opcode 0x86 (R126). -/
def execAddM (s : State) : Outcome :=
  .next (addToA (s.rd8 .m) false s)

/-- `ADD A`, opcode 0x87 (R125). -/
def execAddA (s : State) : Outcome :=
  .next (addToA (s.rd8 (.reg .a)) false s)

/-- `ADC B`, opcode 0x88 (R127). -/
def execAdcB (s : State) : Outcome :=
  .next (addToA (s.rd8 (.reg .b)) s.flags.cy s)

/-- `ADC C`, opcode 0x89 (R127). -/
def execAdcC (s : State) : Outcome :=
  .next (addToA (s.rd8 (.reg .c)) s.flags.cy s)

/-- `ADC D`, opcode 0x8A (R127). -/
def execAdcD (s : State) : Outcome :=
  .next (addToA (s.rd8 (.reg .d)) s.flags.cy s)

/-- `ADC E`, opcode 0x8B (R127). -/
def execAdcE (s : State) : Outcome :=
  .next (addToA (s.rd8 (.reg .e)) s.flags.cy s)

/-- `ADC H`, opcode 0x8C (R127). -/
def execAdcH (s : State) : Outcome :=
  .next (addToA (s.rd8 (.reg .h)) s.flags.cy s)

/-- `ADC L`, opcode 0x8D (R127). -/
def execAdcL (s : State) : Outcome :=
  .next (addToA (s.rd8 (.reg .l)) s.flags.cy s)

/-- `ADC M`, opcode 0x8E (R128). -/
def execAdcM (s : State) : Outcome :=
  .next (addToA (s.rd8 .m) s.flags.cy s)

/-- `ADC A`, opcode 0x8F (R127). -/
def execAdcA (s : State) : Outcome :=
  .next (addToA (s.rd8 (.reg .a)) s.flags.cy s)

/-- `SUB B`, opcode 0x90 (R129). -/
def execSubB (s : State) : Outcome :=
  .next (subFromA (s.rd8 (.reg .b)) false s)

/-- `SUB C`, opcode 0x91 (R129). -/
def execSubC (s : State) : Outcome :=
  .next (subFromA (s.rd8 (.reg .c)) false s)

/-- `SUB D`, opcode 0x92 (R129). -/
def execSubD (s : State) : Outcome :=
  .next (subFromA (s.rd8 (.reg .d)) false s)

/-- `SUB E`, opcode 0x93 (R129). -/
def execSubE (s : State) : Outcome :=
  .next (subFromA (s.rd8 (.reg .e)) false s)

/-- `SUB H`, opcode 0x94 (R129). -/
def execSubH (s : State) : Outcome :=
  .next (subFromA (s.rd8 (.reg .h)) false s)

/-- `SUB L`, opcode 0x95 (R129). -/
def execSubL (s : State) : Outcome :=
  .next (subFromA (s.rd8 (.reg .l)) false s)

/-- `SUB M`, opcode 0x96 (R130). -/
def execSubM (s : State) : Outcome :=
  .next (subFromA (s.rd8 .m) false s)

/-- `SUB A`, opcode 0x97 (R129). -/
def execSubA (s : State) : Outcome :=
  .next (subFromA (s.rd8 (.reg .a)) false s)

/-- `SBB B`, opcode 0x98 (R131). -/
def execSbbB (s : State) : Outcome :=
  .next (subFromA (s.rd8 (.reg .b)) s.flags.cy s)

/-- `SBB C`, opcode 0x99 (R131). -/
def execSbbC (s : State) : Outcome :=
  .next (subFromA (s.rd8 (.reg .c)) s.flags.cy s)

/-- `SBB D`, opcode 0x9A (R131). -/
def execSbbD (s : State) : Outcome :=
  .next (subFromA (s.rd8 (.reg .d)) s.flags.cy s)

/-- `SBB E`, opcode 0x9B (R131). -/
def execSbbE (s : State) : Outcome :=
  .next (subFromA (s.rd8 (.reg .e)) s.flags.cy s)

/-- `SBB H`, opcode 0x9C (R131). -/
def execSbbH (s : State) : Outcome :=
  .next (subFromA (s.rd8 (.reg .h)) s.flags.cy s)

/-- `SBB L`, opcode 0x9D (R131). -/
def execSbbL (s : State) : Outcome :=
  .next (subFromA (s.rd8 (.reg .l)) s.flags.cy s)

/-- `SBB M`, opcode 0x9E (R132). -/
def execSbbM (s : State) : Outcome :=
  .next (subFromA (s.rd8 .m) s.flags.cy s)

/-- `SBB A`, opcode 0x9F (R131). -/
def execSbbA (s : State) : Outcome :=
  .next (subFromA (s.rd8 (.reg .a)) s.flags.cy s)

/-- `ADI d8`, opcode 0xC6 (R133). -/
def execAdi (d8 : Byte) (s : State) : Outcome :=
  .next (addToA d8 false s)

/-- `ACI d8`, opcode 0xCE (R134). -/
def execAci (d8 : Byte) (s : State) : Outcome :=
  .next (addToA d8 s.flags.cy s)

/-- `SUI d8`, opcode 0xD6 (R135). -/
def execSui (d8 : Byte) (s : State) : Outcome :=
  .next (subFromA d8 false s)

/-- `SBI d8`, opcode 0xDE (R136). -/
def execSbi (d8 : Byte) (s : State) : Outcome :=
  .next (subFromA d8 s.flags.cy s)

/-- `INR B`, opcode 0x04 (R137). -/
def execInrB (s : State) : Outcome :=
  .next (increment (.reg .b) s)

/-- `INR C`, opcode 0x0C (R137). -/
def execInrC (s : State) : Outcome :=
  .next (increment (.reg .c) s)

/-- `INR D`, opcode 0x14 (R137). -/
def execInrD (s : State) : Outcome :=
  .next (increment (.reg .d) s)

/-- `INR E`, opcode 0x1C (R137). -/
def execInrE (s : State) : Outcome :=
  .next (increment (.reg .e) s)

/-- `INR H`, opcode 0x24 (R137). -/
def execInrH (s : State) : Outcome :=
  .next (increment (.reg .h) s)

/-- `INR L`, opcode 0x2C (R137). -/
def execInrL (s : State) : Outcome :=
  .next (increment (.reg .l) s)

/-- `INR M`, opcode 0x34 (R138). -/
def execInrM (s : State) : Outcome :=
  .next (increment .m s)

/-- `INR A`, opcode 0x3C (R137). -/
def execInrA (s : State) : Outcome :=
  .next (increment (.reg .a) s)

/-- `DCR B`, opcode 0x05 (R139). -/
def execDcrB (s : State) : Outcome :=
  .next (decrement (.reg .b) s)

/-- `DCR C`, opcode 0x0D (R139). -/
def execDcrC (s : State) : Outcome :=
  .next (decrement (.reg .c) s)

/-- `DCR D`, opcode 0x15 (R139). -/
def execDcrD (s : State) : Outcome :=
  .next (decrement (.reg .d) s)

/-- `DCR E`, opcode 0x1D (R139). -/
def execDcrE (s : State) : Outcome :=
  .next (decrement (.reg .e) s)

/-- `DCR H`, opcode 0x25 (R139). -/
def execDcrH (s : State) : Outcome :=
  .next (decrement (.reg .h) s)

/-- `DCR L`, opcode 0x2D (R139). -/
def execDcrL (s : State) : Outcome :=
  .next (decrement (.reg .l) s)

/-- `DCR M`, opcode 0x35 (R140). -/
def execDcrM (s : State) : Outcome :=
  .next (decrement .m s)

/-- `DCR A`, opcode 0x3D (R139). -/
def execDcrA (s : State) : Outcome :=
  .next (decrement (.reg .a) s)

/-- `INX B`, opcode 0x03 (R141). -/
def execInxB (s : State) : Outcome :=
  .next (s.setPair .bc (s.pair .bc + 1))

/-- `INX D`, opcode 0x13 (R141). -/
def execInxD (s : State) : Outcome :=
  .next (s.setPair .de (s.pair .de + 1))

/-- `INX H`, opcode 0x23 (R141). -/
def execInxH (s : State) : Outcome :=
  .next (s.setPair .hl (s.pair .hl + 1))

/-- `INX SP`, opcode 0x33 (R141). -/
def execInxSP (s : State) : Outcome :=
  .next (s.setPair .sp (s.pair .sp + 1))

/-- `DCX B`, opcode 0x0B (R142). -/
def execDcxB (s : State) : Outcome :=
  .next (s.setPair .bc (s.pair .bc - 1))

/-- `DCX D`, opcode 0x1B (R142). -/
def execDcxD (s : State) : Outcome :=
  .next (s.setPair .de (s.pair .de - 1))

/-- `DCX H`, opcode 0x2B (R142). -/
def execDcxH (s : State) : Outcome :=
  .next (s.setPair .hl (s.pair .hl - 1))

/-- `DCX SP`, opcode 0x3B (R142). -/
def execDcxSP (s : State) : Outcome :=
  .next (s.setPair .sp (s.pair .sp - 1))

/-- `DAD B`, opcode 0x09 (R143). -/
def execDadB (s : State) : Outcome :=
  .next (addToHL (s.pair .bc) s)

/-- `DAD D`, opcode 0x19 (R143). -/
def execDadD (s : State) : Outcome :=
  .next (addToHL (s.pair .de) s)

/-- `DAD H`, opcode 0x29 (R143). -/
def execDadH (s : State) : Outcome :=
  .next (addToHL (s.pair .hl) s)

/-- `DAD SP`, opcode 0x39 (R143). -/
def execDadSP (s : State) : Outcome :=
  .next (addToHL (s.pair .sp) s)

/-- `DAA`, opcode 0x27 (R144). -/
def execDaa (s : State) : Outcome :=
  .next (adjustA s)

end Sys2Proof.Machine
end

