-- ==== Sys2Proof/Machine/Branch.lean ====
section
/-! DEFINITION. The control transfer instructions (R190 to R198). None changes a flag. PC is past the whole instruction
when a meaning runs, so that an untaken condition leaves it there and a call pushes it (R26, R72, C4). -/

namespace Sys2Proof.Machine

/-- A conditional jump (R191). -/
def jumpIf (cc : Cond) (t : Word) (s : State) : State := if s.cond cc then s.jump t else s

/-- A conditional call (R193). -/
def callIf (cc : Cond) (t : Word) (s : State) : State := if s.cond cc then s.call t else s

/-- A conditional return (R195). -/
def retIf (cc : Cond) (s : State) : State := if s.cond cc then s.ret else s

/-- `JMP a16`, opcode 0xC3 (R190). -/
def execJmp (a16 : Word) (s : State) : Outcome :=
  .next (s.jump a16)

/-- `JNZ a16`, opcode 0xC2 (R191). -/
def execJnz (a16 : Word) (s : State) : Outcome :=
  .next (jumpIf .nz a16 s)

/-- `JZ a16`, opcode 0xCA (R191). -/
def execJz (a16 : Word) (s : State) : Outcome :=
  .next (jumpIf .z a16 s)

/-- `JNC a16`, opcode 0xD2 (R191). -/
def execJnc (a16 : Word) (s : State) : Outcome :=
  .next (jumpIf .nc a16 s)

/-- `JC a16`, opcode 0xDA (R191). -/
def execJc (a16 : Word) (s : State) : Outcome :=
  .next (jumpIf .c a16 s)

/-- `JPO a16`, opcode 0xE2 (R191). -/
def execJpo (a16 : Word) (s : State) : Outcome :=
  .next (jumpIf .po a16 s)

/-- `JPE a16`, opcode 0xEA (R191). -/
def execJpe (a16 : Word) (s : State) : Outcome :=
  .next (jumpIf .pe a16 s)

/-- `JP a16`, opcode 0xF2 (R191). -/
def execJp (a16 : Word) (s : State) : Outcome :=
  .next (jumpIf .p a16 s)

/-- `JM a16`, opcode 0xFA (R191). -/
def execJm (a16 : Word) (s : State) : Outcome :=
  .next (jumpIf .m a16 s)

/-- `CALL a16`, opcode 0xCD (R192). -/
def execCall (a16 : Word) (s : State) : Outcome :=
  .next (s.call a16)

/-- `CNZ a16`, opcode 0xC4 (R193). -/
def execCnz (a16 : Word) (s : State) : Outcome :=
  .next (callIf .nz a16 s)

/-- `CZ a16`, opcode 0xCC (R193). -/
def execCz (a16 : Word) (s : State) : Outcome :=
  .next (callIf .z a16 s)

/-- `CNC a16`, opcode 0xD4 (R193). -/
def execCnc (a16 : Word) (s : State) : Outcome :=
  .next (callIf .nc a16 s)

/-- `CC a16`, opcode 0xDC (R193). -/
def execCc (a16 : Word) (s : State) : Outcome :=
  .next (callIf .c a16 s)

/-- `CPO a16`, opcode 0xE4 (R193). -/
def execCpo (a16 : Word) (s : State) : Outcome :=
  .next (callIf .po a16 s)

/-- `CPE a16`, opcode 0xEC (R193). -/
def execCpe (a16 : Word) (s : State) : Outcome :=
  .next (callIf .pe a16 s)

/-- `CP a16`, opcode 0xF4 (R193). -/
def execCp (a16 : Word) (s : State) : Outcome :=
  .next (callIf .p a16 s)

/-- `CM a16`, opcode 0xFC (R193). -/
def execCm (a16 : Word) (s : State) : Outcome :=
  .next (callIf .m a16 s)

/-- `RET`, opcode 0xC9 (R194). -/
def execRet (s : State) : Outcome :=
  .next s.ret

/-- `RNZ`, opcode 0xC0 (R195). -/
def execRnz (s : State) : Outcome :=
  .next (retIf .nz s)

/-- `RZ`, opcode 0xC8 (R195). -/
def execRz (s : State) : Outcome :=
  .next (retIf .z s)

/-- `RNC`, opcode 0xD0 (R195). -/
def execRnc (s : State) : Outcome :=
  .next (retIf .nc s)

/-- `RC`, opcode 0xD8 (R195). -/
def execRc (s : State) : Outcome :=
  .next (retIf .c s)

/-- `RPO`, opcode 0xE0 (R195). -/
def execRpo (s : State) : Outcome :=
  .next (retIf .po s)

/-- `RPE`, opcode 0xE8 (R195). -/
def execRpe (s : State) : Outcome :=
  .next (retIf .pe s)

/-- `RP`, opcode 0xF0 (R195). -/
def execRp (s : State) : Outcome :=
  .next (retIf .p s)

/-- `RM`, opcode 0xF8 (R195). -/
def execRm (s : State) : Outcome :=
  .next (retIf .m s)

/-- `RST 0`, opcode 0xC7 (R196). -/
def execRst0 (s : State) : Outcome :=
  .next (s.call (rstTarget 0))

/-- `RST 1`, opcode 0xCF (R196). -/
def execRst1 (s : State) : Outcome :=
  .next (s.call (rstTarget 1))

/-- `RST 2`, opcode 0xD7 (R196). -/
def execRst2 (s : State) : Outcome :=
  .next (s.call (rstTarget 2))

/-- `RST 3`, opcode 0xDF (R196). -/
def execRst3 (s : State) : Outcome :=
  .next (s.call (rstTarget 3))

/-- `RST 4`, opcode 0xE7 (R196). -/
def execRst4 (s : State) : Outcome :=
  .next (s.call (rstTarget 4))

/-- `RST 5`, opcode 0xEF (R196). -/
def execRst5 (s : State) : Outcome :=
  .next (s.call (rstTarget 5))

/-- `RST 6`, opcode 0xF7 (R196). -/
def execRst6 (s : State) : Outcome :=
  .next (s.call (rstTarget 6))

/-- `RST 7`, opcode 0xFF (R196). -/
def execRst7 (s : State) : Outcome :=
  .next (s.call (rstTarget 7))

/-- `PCHL`, opcode 0xE9 (R197). -/
def execPchl (s : State) : Outcome :=
  .next (s.jump (s.pair .hl))

end Sys2Proof.Machine
end

