-- ==== Sys2Proof/Machine/Control.lean ====
section
/-! DEFINITION. Input and output, the inert interrupt opcodes, NOP, HLT and the ten unassigned bytes (R216 to R225). What an
unassigned byte does hangs on the parameter `NOPALIAS`; a constructor is named after its class under the
default (R80, log 1). -/

namespace Sys2Proof.Machine

/-- `IN p8`, opcode 0xDB (R216). -/
def execInPort (p8 : Byte) (s : State) : Outcome :=
  .next (s.setReg .a (s.readPort p8))

/-- `OUT p8`, opcode 0xD3 (R217). -/
def execOutPort (p8 : Byte) (s : State) : Outcome :=
  .next (s.writePort p8 s.a)

/-- `EI`, opcode 0xFB (R218). -/
def execEi (s : State) : Outcome :=
  .next s

/-- `DI`, opcode 0xF3 (R219). -/
def execDi (s : State) : Outcome :=
  .next s

/-- `RIM`, opcode 0x20 (R220). -/
def execRim (s : State) : Outcome :=
  .next s

/-- `SIM`, opcode 0x30 (R221). -/
def execSim (s : State) : Outcome :=
  .next s

/-- `NOP`, opcode 0x00 (R222). -/
def execNop (s : State) : Outcome :=
  .next s

/-- `HLT`, opcode 0x76 (R223). -/
def execHlt (s : State) : Outcome :=
  .next { s with halted := true }

/-- `*NOP (alias, parameter NOPALIAS)`, opcode 0x08 (R224). -/
def execNopAlias08 (s : State) : Outcome :=
  .next (s.unassigned .u08)

/-- `*NOP (alias, parameter NOPALIAS)`, opcode 0x10 (R224). -/
def execNopAlias10 (s : State) : Outcome :=
  .next (s.unassigned .u10)

/-- `*NOP (alias, parameter NOPALIAS)`, opcode 0x18 (R224). -/
def execNopAlias18 (s : State) : Outcome :=
  .next (s.unassigned .u18)

/-- `*NOP (alias, parameter NOPALIAS)`, opcode 0x28 (R224). -/
def execNopAlias28 (s : State) : Outcome :=
  .next (s.unassigned .u28)

/-- `*NOP (alias, parameter NOPALIAS)`, opcode 0x38 (R224). -/
def execNopAlias38 (s : State) : Outcome :=
  .next (s.unassigned .u38)

/-- `*ILLEGAL (fail-stop)`, opcode 0xCB (R225). -/
def execFailStopCB (s : State) : Outcome :=
  .next (s.unassigned .uCB)

/-- `*ILLEGAL (fail-stop)`, opcode 0xD9 (R225). -/
def execFailStopD9 (s : State) : Outcome :=
  .next (s.unassigned .uD9)

/-- `*ILLEGAL (fail-stop)`, opcode 0xDD (R225). -/
def execFailStopDD (s : State) : Outcome :=
  .next (s.unassigned .uDD)

/-- `*ILLEGAL (fail-stop)`, opcode 0xED (R225). -/
def execFailStopED (s : State) : Outcome :=
  .next (s.unassigned .uED)

/-- `*ILLEGAL (fail-stop)`, opcode 0xFD (R225). -/
def execFailStopFD (s : State) : Outcome :=
  .next (s.unassigned .uFD)

end Sys2Proof.Machine
end

