-- ==== Sys2Proof/Machine/Logic.lean ====
section
/-! DEFINITION. The logical, compare, rotate and carry instructions (R161 to R179). -/

namespace Sys2Proof.Machine

/-- `x[A] <- logic8(x[A] & v)` (R161, R162, R169). -/
def andA (v : Byte) (s : State) : State :=
  { s with a := s.a &&& v, flags := logic8 (s.a &&& v) s.flags }

/-- `x[A] <- logic8(x[A] ^ v)` (R163, R164, R170). -/
def xorA (v : Byte) (s : State) : State :=
  { s with a := s.a ^^^ v, flags := logic8 (s.a ^^^ v) s.flags }

/-- `x[A] <- logic8(x[A] | v)` (R165, R166, R171). -/
def orA (v : Byte) (s : State) : State :=
  { s with a := s.a ||| v, flags := logic8 (s.a ||| v) s.flags }

/-- `sub8(x[A], v, 0)` with the returned value discarded: only the flags are written (R167, R168, R172). -/
def compareA (v : Byte) (s : State) : State := { s with flags := (sub8 s.a v false s.flags).2 }

/-- Write CY and no other flag (R173 to R176, R178, R179). -/
def setCarry (b : Bool) (s : State) : State := { s with flags := { s.flags with cy := b } }

/-- A rotate: the new A, and the bit that moved out into CY; no other flag changes (R173 to R176). -/
def rotateA (v : Byte) (out : Bool) (s : State) : State := setCarry out { s with a := v }

/-- `ANA B`, opcode 0xA0 (R161). -/
def execAnaB (s : State) : Outcome :=
  .next (andA (s.rd8 (.reg .b)) s)

/-- `ANA C`, opcode 0xA1 (R161). -/
def execAnaC (s : State) : Outcome :=
  .next (andA (s.rd8 (.reg .c)) s)

/-- `ANA D`, opcode 0xA2 (R161). -/
def execAnaD (s : State) : Outcome :=
  .next (andA (s.rd8 (.reg .d)) s)

/-- `ANA E`, opcode 0xA3 (R161). -/
def execAnaE (s : State) : Outcome :=
  .next (andA (s.rd8 (.reg .e)) s)

/-- `ANA H`, opcode 0xA4 (R161). -/
def execAnaH (s : State) : Outcome :=
  .next (andA (s.rd8 (.reg .h)) s)

/-- `ANA L`, opcode 0xA5 (R161). -/
def execAnaL (s : State) : Outcome :=
  .next (andA (s.rd8 (.reg .l)) s)

/-- `ANA M`, opcode 0xA6 (R162). -/
def execAnaM (s : State) : Outcome :=
  .next (andA (s.rd8 .m) s)

/-- `ANA A`, opcode 0xA7 (R161). -/
def execAnaA (s : State) : Outcome :=
  .next (andA (s.rd8 (.reg .a)) s)

/-- `XRA B`, opcode 0xA8 (R163). -/
def execXraB (s : State) : Outcome :=
  .next (xorA (s.rd8 (.reg .b)) s)

/-- `XRA C`, opcode 0xA9 (R163). -/
def execXraC (s : State) : Outcome :=
  .next (xorA (s.rd8 (.reg .c)) s)

/-- `XRA D`, opcode 0xAA (R163). -/
def execXraD (s : State) : Outcome :=
  .next (xorA (s.rd8 (.reg .d)) s)

/-- `XRA E`, opcode 0xAB (R163). -/
def execXraE (s : State) : Outcome :=
  .next (xorA (s.rd8 (.reg .e)) s)

/-- `XRA H`, opcode 0xAC (R163). -/
def execXraH (s : State) : Outcome :=
  .next (xorA (s.rd8 (.reg .h)) s)

/-- `XRA L`, opcode 0xAD (R163). -/
def execXraL (s : State) : Outcome :=
  .next (xorA (s.rd8 (.reg .l)) s)

/-- `XRA M`, opcode 0xAE (R164). -/
def execXraM (s : State) : Outcome :=
  .next (xorA (s.rd8 .m) s)

/-- `XRA A`, opcode 0xAF (R163). -/
def execXraA (s : State) : Outcome :=
  .next (xorA (s.rd8 (.reg .a)) s)

/-- `ORA B`, opcode 0xB0 (R165). -/
def execOraB (s : State) : Outcome :=
  .next (orA (s.rd8 (.reg .b)) s)

/-- `ORA C`, opcode 0xB1 (R165). -/
def execOraC (s : State) : Outcome :=
  .next (orA (s.rd8 (.reg .c)) s)

/-- `ORA D`, opcode 0xB2 (R165). -/
def execOraD (s : State) : Outcome :=
  .next (orA (s.rd8 (.reg .d)) s)

/-- `ORA E`, opcode 0xB3 (R165). -/
def execOraE (s : State) : Outcome :=
  .next (orA (s.rd8 (.reg .e)) s)

/-- `ORA H`, opcode 0xB4 (R165). -/
def execOraH (s : State) : Outcome :=
  .next (orA (s.rd8 (.reg .h)) s)

/-- `ORA L`, opcode 0xB5 (R165). -/
def execOraL (s : State) : Outcome :=
  .next (orA (s.rd8 (.reg .l)) s)

/-- `ORA M`, opcode 0xB6 (R166). -/
def execOraM (s : State) : Outcome :=
  .next (orA (s.rd8 .m) s)

/-- `ORA A`, opcode 0xB7 (R165). -/
def execOraA (s : State) : Outcome :=
  .next (orA (s.rd8 (.reg .a)) s)

/-- `CMP B`, opcode 0xB8 (R167). -/
def execCmpB (s : State) : Outcome :=
  .next (compareA (s.rd8 (.reg .b)) s)

/-- `CMP C`, opcode 0xB9 (R167). -/
def execCmpC (s : State) : Outcome :=
  .next (compareA (s.rd8 (.reg .c)) s)

/-- `CMP D`, opcode 0xBA (R167). -/
def execCmpD (s : State) : Outcome :=
  .next (compareA (s.rd8 (.reg .d)) s)

/-- `CMP E`, opcode 0xBB (R167). -/
def execCmpE (s : State) : Outcome :=
  .next (compareA (s.rd8 (.reg .e)) s)

/-- `CMP H`, opcode 0xBC (R167). -/
def execCmpH (s : State) : Outcome :=
  .next (compareA (s.rd8 (.reg .h)) s)

/-- `CMP L`, opcode 0xBD (R167). -/
def execCmpL (s : State) : Outcome :=
  .next (compareA (s.rd8 (.reg .l)) s)

/-- `CMP M`, opcode 0xBE (R168). -/
def execCmpM (s : State) : Outcome :=
  .next (compareA (s.rd8 .m) s)

/-- `CMP A`, opcode 0xBF (R167). -/
def execCmpA (s : State) : Outcome :=
  .next (compareA (s.rd8 (.reg .a)) s)

/-- `ANI d8`, opcode 0xE6 (R169). -/
def execAni (d8 : Byte) (s : State) : Outcome :=
  .next (andA d8 s)

/-- `XRI d8`, opcode 0xEE (R170). -/
def execXri (d8 : Byte) (s : State) : Outcome :=
  .next (xorA d8 s)

/-- `ORI d8`, opcode 0xF6 (R171). -/
def execOri (d8 : Byte) (s : State) : Outcome :=
  .next (orA d8 s)

/-- `CPI d8`, opcode 0xFE (R172). -/
def execCpi (d8 : Byte) (s : State) : Outcome :=
  .next (compareA d8 s)

/-- `RLC`, opcode 0x07 (R173). -/
def execRlc (s : State) : Outcome :=
  .next (rotateA (s.a <<< 1 ||| s.a >>> 7) (s.a.getLsbD 7) s)

/-- `RRC`, opcode 0x0F (R174). -/
def execRrc (s : State) : Outcome :=
  .next (rotateA (s.a >>> 1 ||| (s.a &&& 1) <<< 7) (s.a.getLsbD 0) s)

/-- `RAL`, opcode 0x17 (R175). -/
def execRal (s : State) : Outcome :=
  .next (rotateA (s.a.extractLsb' 0 7 ++ BitVec.ofBool s.flags.cy) (s.a.getLsbD 7) s)

/-- `RAR`, opcode 0x1F (R176). -/
def execRar (s : State) : Outcome :=
  .next (rotateA (BitVec.ofBool s.flags.cy ++ s.a.extractLsb' 1 7) (s.a.getLsbD 0) s)

/-- `CMA`, opcode 0x2F (R177). -/
def execCma (s : State) : Outcome :=
  .next { s with a := s.a ^^^ 0xFF#8 }

/-- `CMC`, opcode 0x3F (R178). -/
def execCmc (s : State) : Outcome :=
  .next (setCarry (!s.flags.cy) s)

/-- `STC`, opcode 0x37 (R179). -/
def execStc (s : State) : Outcome :=
  .next (setCarry true s)

end Sys2Proof.Machine
end

