-- ==== Sys2Proof/Machine/Stack.lean ====
section
/-! DEFINITION. The stack instructions (R210 to R215). -/

namespace Sys2Proof.Machine

/-- `rp[p] <- Pop16()` (R212). -/
def popPair (p : Pair) (s : State) : State := s.pop16.2.setPair p s.pop16.1

/-- `w <- Pop16(); UnpackPSW(lo8(w)); x[A] <- hi8(w)` (R213). -/
def popStatus (s : State) : State :=
  { s.pop16.2 with flags := unpackPSW (lo8 s.pop16.1), a := hi8 s.pop16.1 }

/-- XTHL: both bytes are read before either is written; SP does not move (R214, R61). -/
def exchangeTop (s : State) : State :=
  (s.writeMem16 s.sp (s.pair .hl)).setPair .hl (s.readMem16 s.sp)

/-- `PUSH B`, opcode 0xC5 (R210). -/
def execPushB (s : State) : Outcome :=
  .next (s.push16 (s.pair .bc))

/-- `PUSH D`, opcode 0xD5 (R210). -/
def execPushD (s : State) : Outcome :=
  .next (s.push16 (s.pair .de))

/-- `PUSH H`, opcode 0xE5 (R210). -/
def execPushH (s : State) : Outcome :=
  .next (s.push16 (s.pair .hl))

/-- `PUSH PSW`, opcode 0xF5 (R211). -/
def execPushPSW (s : State) : Outcome :=
  .next (s.push16 (cat s.a (packPSW s.flags)))

/-- `POP B`, opcode 0xC1 (R212). -/
def execPopB (s : State) : Outcome :=
  .next (popPair .bc s)

/-- `POP D`, opcode 0xD1 (R212). -/
def execPopD (s : State) : Outcome :=
  .next (popPair .de s)

/-- `POP H`, opcode 0xE1 (R212). -/
def execPopH (s : State) : Outcome :=
  .next (popPair .hl s)

/-- `POP PSW`, opcode 0xF1 (R213). -/
def execPopPSW (s : State) : Outcome :=
  .next (popStatus s)

/-- `XTHL`, opcode 0xE3 (R214). -/
def execXthl (s : State) : Outcome :=
  .next (exchangeTop s)

/-- `SPHL`, opcode 0xF9 (R215). -/
def execSphl (s : State) : Outcome :=
  .next (s.setPair .sp (s.pair .hl))

end Sys2Proof.Machine
end

