-- ==== Sys2Proof/Machine/Step.lean ====
section
/-! DEFINITION. The one operation by which the hardware executes (R90, R91). -/

namespace Sys2Proof.Machine

/-- `step()`: the identity while halted (R90); else one whole instruction is fetched, PC advancing past it, and
executed (R91, R95, R262). -/
def step (s : State) : Host.Outcome State Fault Refusal :=
  if s.halted then .next s
  else exec s.fetchInstr.1 s.fetchInstr.2

/-- The state with the bytes of an instruction word (numbered as the opcode table numbers them) stored at PC, where
the next step fetches, and the core RUNNING, as a step needs; `illegal` goes with `halted`, since a running core
holds it clear (R32). It stands for the host's `writeByte` calls that load a program (R263, R268; log 4). -/
def State.withFetchWord (s : State) (nbits w : Nat) : State :=
  let s := { s with halted := false, illegal := false }
  match bytesOfTableWord nbits w with
  | [b1, b2, b3] => ((s.writeMem s.pc b1).writeMem (s.pc + 1) b2).writeMem (s.pc + 2) b3
  | _ => s

end Sys2Proof.Machine
end

