-- ==== Sys2Proof/Machine/HostOps.lean ====
section
/-! DEFINITION. The host's operations beside `step` (R260 to R267): `reset`, `writeByte`, direct reads, `getState`, and
the labelled transition system they make with `step`. Overlapping moves are not offered (R267, U2; log 5). -/

namespace Sys2Proof.Machine

/-- `reset()`: registers, SP, PC, flags, `halted` and `illegal` take their reset values in any state; `mem` and `io`
are not touched (R38, R261), nor is the parameter `NOPALIAS`. It is the only way out of HALTED (R248, R253). -/
def State.hostReset (s : State) : State :=
  { State.reset with mem := s.mem, io := s.io, nopAlias := s.nopAlias }

/-- `writeByte(address, value)`: value masked to 8 bits, stored at address masked to 16 bits (R263). -/
def State.writeByte (s : State) (address value : Int) : State :=
  s.writeMem (trunc16 address) (trunc8 value)

/-- What `getState()` copies: registers, SP, PC, flags, `halted` and, in this spec, `illegal` (R265). -/
structure Snapshot where
  a : Byte
  b : Byte
  c : Byte
  d : Byte
  e : Byte
  h : Byte
  l : Byte
  sp : Word
  pc : Word
  flags : Flags
  halted : Bool
  illegal : Bool
  deriving DecidableEq, Repr

/-- `getState()`: a copy, a value (R265). The direct reads of the arrays (R264) are `readMem` and `readPort`. -/
def State.getState (s : State) : Snapshot :=
  { a := s.a, b := s.b, c := s.c, d := s.d, e := s.e, h := s.h, l := s.l, sp := s.sp, pc := s.pc,
    flags := s.flags, halted := s.halted, illegal := s.illegal }

/-- The labels of the transition system (R267). Reads and `getState` change nothing and need no label. -/
inductive HostMove where
  | step
  | reset
  | writeByte (address value : Int)
  deriving DecidableEq, Repr

/-- One move of the host, taken between steps (R267). -/
def hostMove (m : HostMove) (s : State) : Host.Outcome State Fault Refusal :=
  match m with
  | .step => step s
  | .reset => .next s.hostReset
  | .writeByte address value => .next (s.writeByte address value)

/-- A sequence of moves, "taken one at a time in whatever order the host chooses" (R267). -/
def hostMoves : List HostMove → State → Host.Outcome State Fault Refusal
  | [], s => .next s
  | m :: ms, s =>
    match hostMove m s with
    | .next s' => hostMoves ms s'
    | .fault f => .fault f
    | .refused r => .refused r

end Sys2Proof.Machine
end

