-- ==== Sys2Proof/Safety.lean ====
section
/-! DEFINITION. What counts as a legal state, and how a run ends (R37, R241, R243, R244). -/

namespace Sys2Proof.Machine

/-- The invariant between steps: both arrays are in canonical form within their sizes (R34, R35), and `illegal` implies
`halted` (R32, R37). The ranges of R37 hold by the types. -/
structure State.Inv (s : State) : Prop where
  mem_wf : Memory.wf Config.memSize s.mem = true
  io_wf : Memory.wf Config.ioSize s.io = true
  illegal_halted : s.illegal = true → s.halted = true

/-- The two ways of halting, numbered 0 and 1 by R241. -/
inductive HaltCause where
  | hlt
  | illegalOpcode
  deriving DecidableEq, Repr

/-- The number of a halt cause (R241, decision D3). -/
def HaltCause.number : HaltCause → Nat
  | .hlt => 0
  | .illegalOpcode => 1

/-- Why the core is halted, if it is (R241, R243). -/
def State.haltCause (s : State) : Option HaltCause :=
  if s.halted then (if s.illegal then some .illegalOpcode else some .hlt) else none

/-- A run has ended (R244). -/
def State.ended (s : State) : Bool := s.halted

/-- A run has ended well (R244). -/
def State.endedWell (s : State) : Bool := s.halted && !s.illegal

/-- After a fail-stop, the address of the offending byte (R241). -/
def State.faultAddress (s : State) : Word := s.pc - 1

/-- After a fail-stop, the offending byte, provided nothing has written there since (R241). -/
def State.faultByte (s : State) : Byte := s.readMem s.faultAddress

end Sys2Proof.Machine
end

