-- ==== Sys2Proof/Certificates/Slice0/Obligations.lean ====
section
/-! DEFINITION. The statements about the model for the provers, and the vocabulary they are written in. `exec i s` runs on a
state whose PC is already past the whole instruction (R26, R91); `StepRunsDecodedInstruction` ties it to `step`.
An equation `exec i s = .next t` says at once that the instruction completes in every state, its result, and
its frame: `t` is written as the state `s` with the named parts replaced. -/

namespace Sys2Proof.Claims

open Sys2Proof.Machine

/-- The number of 1 bits of a byte. -/
def ones (v : Byte) : Nat := ((List.range 8).filter (fun k => v.toNat.testBit k)).length

/-- S, Z and P are those of the byte `v` (R120). -/
def SignZeroParity (v : Byte) (f : Flags) : Prop :=
  (f.s = true ↔ 128 ≤ v.toNat) ∧ (f.z = true ↔ v.toNat = 0) ∧ (f.p = true ↔ ones v % 2 = 0)

/-- `v` and `f` are what `add8(a, b, cin)` returns and writes (R121). -/
def IsSum (a b : Byte) (cin : Bool) (v : Byte) (f : Flags) : Prop :=
  v.toNat = (a.toNat + b.toNat + cin.toNat) % 256
    ∧ (f.cy = true ↔ 255 < a.toNat + b.toNat + cin.toNat)
    ∧ (f.ac = true ↔ 15 < a.toNat % 16 + b.toNat % 16 + cin.toNat)
    ∧ SignZeroParity v f

/-- `v` and `f` are what `sub8(a, b, bin)` returns and writes (R122). -/
def IsDifference (a b : Byte) (bin : Bool) (v : Byte) (f : Flags) : Prop :=
  (v.toNat : Int) = ((a.toNat : Int) - b.toNat - bin.toNat) % 256
    ∧ (f.cy = true ↔ a.toNat < b.toNat + bin.toNat)
    ∧ (f.ac = true ↔ a.toNat % 16 < b.toNat % 16 + bin.toNat)
    ∧ SignZeroParity v f

/-- `f` is what `logic8(v)` leaves in the flags (R160). -/
def IsLogicFlags (v : Byte) (f : Flags) : Prop := f.cy = false ∧ f.ac = false ∧ SignZeroParity v f

/-- The byte decodes, alone, to the instruction (format F1, R70). -/
def ReadsF1 (op : Byte) (i : Instr) : Prop := ∀ rest, decode (op :: rest) = .instr i rest

/-- The byte decodes, with one operand byte, to the instruction (format F2, R70). -/
def ReadsF2 (op : Byte) (make : Byte → Instr) : Prop :=
  ∀ d rest, decode (op :: d :: rest) = .instr (make d) rest

/-- The byte decodes, with two operand bytes, low byte first, to the instruction (format F3, R70, R72). -/
def ReadsF3 (op : Byte) (make : Word → Instr) : Prop :=
  ∀ lo hi rest, decode (op :: lo :: hi :: rest) = .instr (make (hi ++ lo)) rest

/-- The 18 opcode bytes of length 2 (R73). -/
def length2 : List Byte :=
  [0x06, 0x0E, 0x16, 0x1E, 0x26, 0x2E, 0x36, 0x3E, 0xC6, 0xCE, 0xD6, 0xDE, 0xE6, 0xEE, 0xF6, 0xFE, 0xD3, 0xDB]

/-- The 26 opcode bytes of length 3 (R73). -/
def length3 : List Byte :=
  [0x01, 0x11, 0x21, 0x31, 0x22, 0x2A, 0x32, 0x3A, 0xC2, 0xCA, 0xD2, 0xDA, 0xE2, 0xEA, 0xF2, 0xFA, 0xC3,
    0xC4, 0xCC, 0xD4, 0xDC, 0xE4, 0xEC, 0xF4, 0xFC, 0xCD]

/-- Packed BCD of a number below 100 (spec/95_test_vectors.md section 2.7). -/
def bcd (n : Nat) : Byte := BitVec.ofNat 8 (16 * (n / 10) + n % 10)

/-- The state after an outcome, if there is one. -/
def nextState (o : Outcome) : Option State :=
  match o with
  | .next s => some s
  | .fault _ => none
  | .refused _ => none

/-- Run a list of instructions by `exec`, one after the other. -/
def execAll : List Instr → State → Outcome
  | [], s => .next s
  | i :: is, s =>
    match exec i s with
    | .next t => execAll is t
    | .fault f => .fault f
    | .refused r => .refused r

/-- Two bytes pushed at SP - 1 and SP - 2 and SP two lower, all modulo 65536 (R98). -/
def pushed (s : State) (hi lo : Byte) : State :=
  { (s.writeMem (s.sp - 1) hi).writeMem (s.sp - 2) lo with sp := s.sp - 2 }

/-- The addresses of the bytes an instruction stores to, computed from the state it runs on by the expressions
its rule gives; what is not listed stores nothing (R57). -/
def storedTo (i : Instr) (s : State) : List Word :=
  match i with
  | .movMB | .movMC | .movMD | .movME | .movMH | .movML | .movMA => [s.pair .hl]
  | .mviM _ | .inrM | .dcrM => [s.pair .hl]
  | .sta a16 => [a16]
  | .shld a16 => [a16, a16 + 1]
  | .staxB => [s.pair .bc]
  | .staxD => [s.pair .de]
  | .pushB | .pushD | .pushH | .pushPSW | .call _ => [s.sp - 1, s.sp - 2]
  | .rst0 | .rst1 | .rst2 | .rst3 | .rst4 | .rst5 | .rst6 | .rst7 => [s.sp - 1, s.sp - 2]
  | .cnz _ => if s.cond .nz then [s.sp - 1, s.sp - 2] else []
  | .cz _ => if s.cond .z then [s.sp - 1, s.sp - 2] else []
  | .cnc _ => if s.cond .nc then [s.sp - 1, s.sp - 2] else []
  | .cc _ => if s.cond .c then [s.sp - 1, s.sp - 2] else []
  | .cpo _ => if s.cond .po then [s.sp - 1, s.sp - 2] else []
  | .cpe _ => if s.cond .pe then [s.sp - 1, s.sp - 2] else []
  | .cp _ => if s.cond .p then [s.sp - 1, s.sp - 2] else []
  | .cm _ => if s.cond .m then [s.sp - 1, s.sp - 2] else []
  | .xthl => [s.sp, s.sp + 1]
  | _ => []

/-- The 8-bit registers an instruction may write: its destination and, where its rule says so, both halves of a
pair; what is not listed writes none (R22 and the rule of each instruction). -/
def destRegs (i : Instr) : List Reg8 :=
  match i with
  | .movBB | .movBC | .movBD | .movBE | .movBH | .movBL | .movBM | .movBA => [.b]
  | .mviB _ | .inrB | .dcrB => [.b]
  | .movCB | .movCC | .movCD | .movCE | .movCH | .movCL | .movCM | .movCA => [.c]
  | .mviC _ | .inrC | .dcrC => [.c]
  | .movDB | .movDC | .movDD | .movDE | .movDH | .movDL | .movDM | .movDA => [.d]
  | .mviD _ | .inrD | .dcrD => [.d]
  | .movEB | .movEC | .movED | .movEE | .movEH | .movEL | .movEM | .movEA => [.e]
  | .mviE _ | .inrE | .dcrE => [.e]
  | .movHB | .movHC | .movHD | .movHE | .movHH | .movHL | .movHM | .movHA => [.h]
  | .mviH _ | .inrH | .dcrH => [.h]
  | .movLB | .movLC | .movLD | .movLE | .movLH | .movLL | .movLM | .movLA => [.l]
  | .mviL _ | .inrL | .dcrL => [.l]
  | .movAB | .movAC | .movAD | .movAE | .movAH | .movAL | .movAM | .movAA => [.a]
  | .mviA _ | .inrA | .dcrA => [.a]
  | .lxiB _ | .inxB | .dcxB | .popB => [.b, .c]
  | .lxiD _ | .inxD | .dcxD | .popD => [.d, .e]
  | .lxiH _ | .inxH | .dcxH | .popH => [.h, .l]
  | .dadB | .dadD | .dadH | .dadSP | .lhld _ | .xthl => [.h, .l]
  | .xchg => [.d, .e, .h, .l]
  | .addB | .addC | .addD | .addE | .addH | .addL | .addM | .addA
  | .adcB | .adcC | .adcD | .adcE | .adcH | .adcL | .adcM | .adcA
  | .subB | .subC | .subD | .subE | .subH | .subL | .subM | .subA
  | .sbbB | .sbbC | .sbbD | .sbbE | .sbbH | .sbbL | .sbbM | .sbbA
  | .anaB | .anaC | .anaD | .anaE | .anaH | .anaL | .anaM | .anaA
  | .xraB | .xraC | .xraD | .xraE | .xraH | .xraL | .xraM | .xraA
  | .oraB | .oraC | .oraD | .oraE | .oraH | .oraL | .oraM | .oraA => [.a]
  | .adi _ | .aci _ | .sui _ | .sbi _ | .ani _ | .xri _ | .ori _ => [.a]
  | .lda _ | .ldaxB | .ldaxD | .inPort _ | .daa | .rlc | .rrc | .ral | .rar | .cma | .popPSW => [.a]
  | _ => []

/-- The table of R30: the flags an instruction writes or forces; what is not listed writes none. -/
def flagsWritten (i : Instr) : Flags :=
  match i with
  | .addB | .addC | .addD | .addE | .addH | .addL | .addM | .addA
  | .adcB | .adcC | .adcD | .adcE | .adcH | .adcL | .adcM | .adcA
  | .subB | .subC | .subD | .subE | .subH | .subL | .subM | .subA
  | .sbbB | .sbbC | .sbbD | .sbbE | .sbbH | .sbbL | .sbbM | .sbbA
  | .anaB | .anaC | .anaD | .anaE | .anaH | .anaL | .anaM | .anaA
  | .xraB | .xraC | .xraD | .xraE | .xraH | .xraL | .xraM | .xraA
  | .oraB | .oraC | .oraD | .oraE | .oraH | .oraL | .oraM | .oraA
  | .cmpB | .cmpC | .cmpD | .cmpE | .cmpH | .cmpL | .cmpM | .cmpA => ⟨true, true, true, true, true⟩
  | .adi _ | .aci _ | .sui _ | .sbi _ | .ani _ | .xri _ | .ori _ | .cpi _ | .daa | .popPSW => ⟨true, true, true, true, true⟩
  | .inrB | .inrC | .inrD | .inrE | .inrH | .inrL | .inrM | .inrA
  | .dcrB | .dcrC | .dcrD | .dcrE | .dcrH | .dcrL | .dcrM | .dcrA => ⟨true, true, true, true, false⟩
  | .dadB | .dadD | .dadH | .dadSP | .rlc | .rrc | .ral | .rar | .stc | .cmc => ⟨false, false, false, false, true⟩
  | _ => ⟨false, false, false, false, false⟩

/-- May the instruction write SP in this state (R25): LXI, INX, DCX on SP, SPHL, PUSH, POP, CALL, RET, RST, and the
conditional calls and returns when taken. -/
def writesSP (i : Instr) (s : State) : Bool :=
  match i with
  | .lxiSP _ | .inxSP | .dcxSP | .sphl | .call _ | .ret => true
  | .pushB | .pushD | .pushH | .pushPSW | .popB | .popD | .popH | .popPSW => true
  | .rst0 | .rst1 | .rst2 | .rst3 | .rst4 | .rst5 | .rst6 | .rst7 => true
  | .cnz _ | .rnz => s.cond .nz
  | .cz _ | .rz => s.cond .z
  | .cnc _ | .rnc => s.cond .nc
  | .cc _ | .rc => s.cond .c
  | .cpo _ | .rpo => s.cond .po
  | .cpe _ | .rpe => s.cond .pe
  | .cp _ | .rp => s.cond .p
  | .cm _ | .rm => s.cond .m
  | _ => false

/-- Does the instruction write PC beyond the sequential advance in this state (R26): JMP, CALL, RET, RST, PCHL, and
the conditional jumps, calls and returns when taken. -/
def writesPC (i : Instr) (s : State) : Bool :=
  match i with
  | .jmp _ | .call _ | .ret | .pchl => true
  | .rst0 | .rst1 | .rst2 | .rst3 | .rst4 | .rst5 | .rst6 | .rst7 => true
  | .jnz _ | .cnz _ | .rnz => s.cond .nz
  | .jz _ | .cz _ | .rz => s.cond .z
  | .jnc _ | .cnc _ | .rnc => s.cond .nc
  | .jc _ | .cc _ | .rc => s.cond .c
  | .jpo _ | .cpo _ | .rpo => s.cond .po
  | .jpe _ | .cpe _ | .rpe => s.cond .pe
  | .jp _ | .cp _ | .rp => s.cond .p
  | .jm _ | .cm _ | .rm => s.cond .m
  | _ => false

/-- The byte values of `UNASSIGNED` (R5, R80). -/
def unassignedByte : Config.Unassigned → Byte
  | .u08 => 0x08
  | .u10 => 0x10
  | .u18 => 0x18
  | .u28 => 0x28
  | .u38 => 0x38
  | .uCB => 0xCB
  | .uD9 => 0xD9
  | .uDD => 0xDD
  | .uED => 0xED
  | .uFD => 0xFD

/-- The unassigned opcode byte an instruction stands for, if any (R80). -/
def unassignedOf (i : Instr) : Option Config.Unassigned :=
  match i with
  | .nopAlias08 => some .u08
  | .nopAlias10 => some .u10
  | .nopAlias18 => some .u18
  | .nopAlias28 => some .u28
  | .nopAlias38 => some .u38
  | .failStopCB => some .uCB
  | .failStopD9 => some .uD9
  | .failStopDD => some .uDD
  | .failStopED => some .uED
  | .failStopFD => some .uFD
  | _ => none

end Sys2Proof.Claims

open Sys2Proof Sys2Proof.Machine Sys2Proof.Claims

/-- The bytes 3E 25 06 35 80 76 decode to MVI A,25H; MVI B,35H; ADD B; HLT. Formalises R76. -/
def Obligations.ConfirmedBytesDecode : Prop :=
  decode [0x3E, 0x25, 0x06, 0x35, 0x80, 0x76] = .instr (.mviA 0x25) [0x06, 0x35, 0x80, 0x76]
    ∧ decode [0x06, 0x35, 0x80, 0x76] = .instr (.mviB 0x35) [0x80, 0x76]
    ∧ decode [0x80, 0x76] = .instr .addB [0x76]
    ∧ decode [0x76] = .instr .hlt []

/-- Every opcode byte decodes by its quadrant and its fields, as R75 lists them. Formalises R75. -/
def Obligations.OpcodeFieldsDecode : Prop :=
  (ReadsF1 0x00 .nop ∧ ReadsF1 0x20 .rim ∧ ReadsF1 0x30 .sim ∧ ReadsF1 0x08 .nopAlias08
      ∧ ReadsF1 0x10 .nopAlias10 ∧ ReadsF1 0x18 .nopAlias18 ∧ ReadsF1 0x28 .nopAlias28 ∧ ReadsF1 0x38 .nopAlias38)
    ∧ (∀ p : Pair, ReadsF3 (0b00#2 ++ p.code ++ 0b0001#4) (Instr.lxi p)
      ∧ ReadsF1 (0b00#2 ++ p.code ++ 0b1001#4) (Instr.dad p)
      ∧ ReadsF1 (0b00#2 ++ p.code ++ 0b0011#4) (Instr.inx p)
      ∧ ReadsF1 (0b00#2 ++ p.code ++ 0b1011#4) (Instr.dcx p))
    ∧ (ReadsF1 0x02 .staxB ∧ ReadsF1 0x12 .staxD ∧ ReadsF3 0x22 .shld ∧ ReadsF3 0x32 .sta
      ∧ ReadsF1 0x0A .ldaxB ∧ ReadsF1 0x1A .ldaxD ∧ ReadsF3 0x2A .lhld ∧ ReadsF3 0x3A .lda)
    ∧ (∀ x : Opnd8, ReadsF1 (0b00#2 ++ x.code ++ 0b100#3) (Instr.inr x)
      ∧ ReadsF1 (0b00#2 ++ x.code ++ 0b101#3) (Instr.dcr x)
      ∧ ReadsF2 (0b00#2 ++ x.code ++ 0b110#3) (Instr.mvi x))
    ∧ (ReadsF1 0x07 .rlc ∧ ReadsF1 0x0F .rrc ∧ ReadsF1 0x17 .ral ∧ ReadsF1 0x1F .rar
      ∧ ReadsF1 0x27 .daa ∧ ReadsF1 0x2F .cma ∧ ReadsF1 0x37 .stc ∧ ReadsF1 0x3F .cmc)
    ∧ (ReadsF1 0x76 .hlt
      ∧ (∀ dst r : Reg8, ReadsF1 (0b01#2 ++ dst.code ++ r.code) (Instr.mov dst r))
      ∧ (∀ r : Reg8, ReadsF1 (0b01#2 ++ r.code ++ 0b110#3) (Instr.movFromM r)
        ∧ ReadsF1 (0b01#2 ++ 0b110#3 ++ r.code) (Instr.movToM r)))
    ∧ (∀ (f : AluOp) (x : Opnd8), ReadsF1 (0b10#2 ++ f.code ++ x.code) (Instr.alu f x))
    ∧ (∀ cc : Cond, ReadsF1 (0b11#2 ++ cc.code ++ 0b000#3) (Instr.rccc cc)
      ∧ ReadsF3 (0b11#2 ++ cc.code ++ 0b010#3) (Instr.jccc cc)
      ∧ ReadsF3 (0b11#2 ++ cc.code ++ 0b100#3) (Instr.cccc cc))
    ∧ (ReadsF1 0xC1 .popB ∧ ReadsF1 0xD1 .popD ∧ ReadsF1 0xE1 .popH ∧ ReadsF1 0xF1 .popPSW
      ∧ ReadsF1 0xC9 .ret ∧ ReadsF1 0xD9 .failStopD9 ∧ ReadsF1 0xE9 .pchl ∧ ReadsF1 0xF9 .sphl)
    ∧ (ReadsF3 0xC3 .jmp ∧ ReadsF1 0xCB .failStopCB ∧ ReadsF2 0xD3 .outPort ∧ ReadsF2 0xDB .inPort
      ∧ ReadsF1 0xE3 .xthl ∧ ReadsF1 0xEB .xchg ∧ ReadsF1 0xF3 .di ∧ ReadsF1 0xFB .ei)
    ∧ (ReadsF1 0xC5 .pushB ∧ ReadsF1 0xD5 .pushD ∧ ReadsF1 0xE5 .pushH ∧ ReadsF1 0xF5 .pushPSW
      ∧ ReadsF3 0xCD .call ∧ ReadsF1 0xDD .failStopDD ∧ ReadsF1 0xED .failStopED ∧ ReadsF1 0xFD .failStopFD)
    ∧ (∀ f : AluOp, ReadsF2 (0b11#2 ++ f.code ++ 0b110#3) (Instr.aluImm f))
    ∧ (∀ n : Fin 8, ReadsF1 (0b11#2 ++ BitVec.ofNat 3 n.val ++ 0b111#3) (Instr.rst n))

/-- The opcode byte alone decides the length: 18 bytes of length 2, 26 of length 3, the rest 1. Formalises R73. -/
def Obligations.LengthFromOpcodeByte : Prop :=
  length2.length = 18 ∧ length3.length = 26 ∧ length2.Nodup ∧ length3.Nodup
    ∧ (∀ op ∈ length2, op ∉ length3)
    ∧ ∀ (op b2 b3 : Byte) (rest : List Byte), ∃ i,
        decode (op :: b2 :: b3 :: rest) =
          .instr i (if op ∈ length2 then b3 :: rest else if op ∈ length3 then rest else b2 :: b3 :: rest)
        ∧ (encode i).length = (if op ∈ length2 then 2 else if op ∈ length3 then 3 else 1)

/-- Decoding the encoding of any instruction, with any operand, gives it back and leaves the rest. Derived from R70,
R71, R72, R74. -/
def Obligations.DecodeOfEncodeIsTheInstruction : Prop :=
  ∀ (i : Instr) (rest : List Byte), decode (encode i ++ rest) = .instr i rest

/-- What the decoder reads, the encoder writes: each byte string has one instruction and each instruction one
encoding. Derived from R70, R71, R72, R74. -/
def Obligations.EncodeOfDecodeIsTheBytes : Prop :=
  ∀ (bytes rest : List Byte) (i : Instr), decode bytes = .instr i rest → bytes = encode i ++ rest

/-- No opcode byte is refused: decoding rejects exactly the empty string and one that ends before its operands.
Derived from R73, R83, R94. -/
def Obligations.DecodeRejectsOnlyTruncation : Prop :=
  (∀ bytes, decode bytes = .reject .noOpcode ↔ bytes = [])
    ∧ (∀ (op : Byte) (rest : List Byte),
        decode (op :: rest) = .reject (.missingOperand op) ↔
          rest.length < (if op ∈ length2 then 1 else if op ∈ length3 then 2 else 0))
    ∧ (∀ (op : Byte) (rest : List Byte) (e : DecodeError),
        decode (op :: rest) = .reject e → e = .missingOperand op)

/-- Register, pair and M operands: their codes, and what reading and writing one does. Formalises R21, R23, R96. -/
def Obligations.OperandCodesAndAccess : Prop :=
  (Opnd8.code (.reg .b) = 0 ∧ Opnd8.code (.reg .c) = 1 ∧ Opnd8.code (.reg .d) = 2 ∧ Opnd8.code (.reg .e) = 3
      ∧ Opnd8.code (.reg .h) = 4 ∧ Opnd8.code (.reg .l) = 5 ∧ Opnd8.code .m = 6 ∧ Opnd8.code (.reg .a) = 7)
    ∧ (Pair.code .bc = 0 ∧ Pair.code .de = 1 ∧ Pair.code .hl = 2 ∧ Pair.code .sp = 3)
    ∧ ∀ (s : State) (v : Byte) (w : Word),
      (s.rd8 (.reg .b) = s.b ∧ s.rd8 (.reg .c) = s.c ∧ s.rd8 (.reg .d) = s.d ∧ s.rd8 (.reg .e) = s.e
        ∧ s.rd8 (.reg .h) = s.h ∧ s.rd8 (.reg .l) = s.l ∧ s.rd8 (.reg .a) = s.a
        ∧ s.rd8 .m = s.readMem (s.h ++ s.l))
      ∧ (s.wr8 (.reg .b) v = { s with b := v } ∧ s.wr8 (.reg .c) v = { s with c := v }
        ∧ s.wr8 (.reg .d) v = { s with d := v } ∧ s.wr8 (.reg .e) v = { s with e := v }
        ∧ s.wr8 (.reg .h) v = { s with h := v } ∧ s.wr8 (.reg .l) v = { s with l := v }
        ∧ s.wr8 (.reg .a) v = { s with a := v } ∧ s.wr8 .m v = s.writeMem (s.h ++ s.l) v)
      ∧ (s.pair .bc = s.b ++ s.c ∧ s.pair .de = s.d ++ s.e ∧ s.pair .hl = s.h ++ s.l ∧ s.pair .sp = s.sp)
      ∧ (s.setPair .bc w = { s with b := w.extractLsb' 8 8, c := w.extractLsb' 0 8 }
        ∧ s.setPair .de w = { s with d := w.extractLsb' 8 8, e := w.extractLsb' 0 8 }
        ∧ s.setPair .hl w = { s with h := w.extractLsb' 8 8, l := w.extractLsb' 0 8 }
        ∧ s.setPair .sp w = { s with sp := w })

/-- Each of the eight conditions reads exactly its flag. Formalises R97. -/
def Obligations.ConditionTable : Prop :=
  (Cond.code .nz = 0 ∧ Cond.code .z = 1 ∧ Cond.code .nc = 2 ∧ Cond.code .c = 3
      ∧ Cond.code .po = 4 ∧ Cond.code .pe = 5 ∧ Cond.code .p = 6 ∧ Cond.code .m = 7)
    ∧ ∀ s : State,
      (s.cond .nz = true ↔ s.flags.z = false) ∧ (s.cond .z = true ↔ s.flags.z = true)
      ∧ (s.cond .nc = true ↔ s.flags.cy = false) ∧ (s.cond .c = true ↔ s.flags.cy = true)
      ∧ (s.cond .po = true ↔ s.flags.p = false) ∧ (s.cond .pe = true ↔ s.flags.p = true)
      ∧ (s.cond .p = true ↔ s.flags.s = false) ∧ (s.cond .m = true ↔ s.flags.s = true)

/-- The packed status byte: its value, its fixed bits, and unpacking. Formalises R27, R28. -/
def Obligations.PackedStatusByte : Prop :=
  (∀ f : Flags, (packPSW f).toNat =
        128 * f.s.toNat + 64 * f.z.toNat + 16 * f.ac.toNat + 4 * f.p.toNat + 2 + f.cy.toNat
      ∧ packPSW f &&& 0x2A#8 = 0x02#8 ∧ unpackPSW (packPSW f) = f)
    ∧ (∀ b : Byte, ((unpackPSW b).s = b.getLsbD 7 ∧ (unpackPSW b).z = b.getLsbD 6
        ∧ (unpackPSW b).ac = b.getLsbD 4 ∧ (unpackPSW b).p = b.getLsbD 2 ∧ (unpackPSW b).cy = b.getLsbD 0)
      ∧ packPSW (unpackPSW b) = (b &&& 0xD5#8) ||| 0x02#8
      ∧ (b &&& 0x2A#8 = 0x02#8 → ∃ f, packPSW f = b))
    ∧ packPSW State.reset.flags = 0x46#8

/-- A memory write changes one byte, at an address modulo 65536; two-byte accesses are two such bytes, low byte first.
Formalises R53. -/
def Obligations.MemoryReadAfterWrite : Prop :=
  ∀ (s : State) (x : Word) (v : Byte) (w : Word), s.Inv →
    ((s.writeMem x v).readMem x = v
      ∧ (∀ y, y ≠ x → (s.writeMem x v).readMem y = s.readMem y)
      ∧ s.writeMem x v = { s with mem := (s.writeMem x v).mem })
    ∧ s.readMem16 x = s.readMem (x + 1) ++ s.readMem x
    ∧ ((s.writeMem16 x w).readMem x = w.extractLsb' 0 8
      ∧ (s.writeMem16 x w).readMem (x + 1) = w.extractLsb' 8 8
      ∧ (∀ y, y ≠ x → y ≠ x + 1 → (s.writeMem16 x w).readMem y = s.readMem y)
      ∧ (s.writeMem16 x w).readMem16 x = w
      ∧ s.writeMem16 x w = { s with mem := (s.writeMem16 x w).mem })

/-- A port write changes one byte of the port array and nothing else. Formalises R54. -/
def Obligations.PortReadAfterWrite : Prop :=
  ∀ (s : State) (p v : Byte), s.Inv →
    (s.writePort p v).readPort p = v
      ∧ (∀ q, q ≠ p → (s.writePort p v).readPort q = s.readPort q)
      ∧ (∀ x, (s.writePort p v).readMem x = s.readMem x)
      ∧ s.writePort p v = { s with io := (s.writePort p v).io }

/-- Push writes the high byte, then the low byte, below SP; a pop right after returns the value and restores SP, for
every SP. Formalises R98, R99. -/
def Obligations.PushThenPopRestores : Prop :=
  ∀ (s : State) (w : Word), s.Inv →
    ((s.push16 w).sp = s.sp - 2 ∧ (s.push16 w).readMem (s.sp - 1) = w.extractLsb' 8 8
      ∧ (s.push16 w).readMem (s.push16 w).sp = w.extractLsb' 0 8
      ∧ (∀ y, y ≠ s.sp - 1 → y ≠ s.sp - 2 → (s.push16 w).readMem y = s.readMem y)
      ∧ s.push16 w = { s with sp := (s.push16 w).sp, mem := (s.push16 w).mem })
    ∧ s.pop16 = (s.readMem (s.sp + 1) ++ s.readMem s.sp, { s with sp := s.sp + 2 })
    ∧ (s.push16 w).pop16 = (w, { s.push16 w with sp := s.sp })

/-- While halted, a step changes nothing. Formalises R90. -/
def Obligations.StepWhileHaltedIsNoOp : Prop :=
  ∀ s : State, s.halted = true → step s = .next s

/-- A step of a running core executes the instruction decoded from the bytes at PC, with PC moved past all of them.
Derived from R26, R72, R91, R92, R93. -/
def Obligations.StepRunsDecodedInstruction : Prop :=
  ∀ (s : State) (i : Instr) (rest : List Byte), s.halted = false →
    decode [s.readMem s.pc, s.readMem (s.pc + 1), s.readMem (s.pc + 2)] = .instr i rest →
    step s = exec i { s with pc := s.pc + BitVec.ofNat 16 (encode i).length }

/-- Every instruction, and every step, answers a next state from every state. Derived from R94, R242. -/
def Obligations.EveryInstructionCompletes : Prop :=
  (∀ (i : Instr) (s : State), ∃ t, exec i s = .next t) ∧ (∀ s : State, ∃ t, step s = .next t)

/-- A byte stored anywhere, by a store or by writeByte, is what the very next step fetches or reads there: opcode,
operand or data. Derived from R63, R91, R92, R93, R263. -/
def Obligations.FetchSeesEveryStore : Prop :=
  ∀ (s : State) (i : Instr) (rest : List Byte), s.Inv → s.halted = false →
    (∀ (x : Word) (v : Byte),
      let seen := fun y : Word => if y = x then v else s.readMem y
      decode [seen s.pc, seen (s.pc + 1), seen (s.pc + 2)] = .instr i rest →
      step (s.writeMem x v) =
        exec i { s.writeMem x v with pc := s.pc + BitVec.ofNat 16 (encode i).length })
    ∧ (∀ address value : Int,
      let seen := fun y : Word =>
        if (y.toNat : Int) = address % 65536 then BitVec.ofInt 8 value else s.readMem y
      decode [seen s.pc, seen (s.pc + 1), seen (s.pc + 2)] = .instr i rest →
      step (s.writeByte address value) =
        exec i { s.writeByte address value with pc := s.pc + BitVec.ofNat 16 (encode i).length })

/-- MOV between registers, from M and to M. Formalises R100, R101, R102. -/
def Obligations.MovCopiesOneByte : Prop :=
  ∀ (s : State) (dst r : Reg8),
    (encode (Instr.mov dst r) = [0b01#2 ++ dst.code ++ r.code]
      ∧ exec (Instr.mov dst r) s = .next (s.wr8 (.reg dst) (s.rd8 (.reg r))))
    ∧ (encode (Instr.movFromM dst) = [0b01#2 ++ dst.code ++ 0b110#3]
      ∧ exec (Instr.movFromM dst) s = .next (s.wr8 (.reg dst) (s.readMem (s.h ++ s.l))))
    ∧ (encode (Instr.movToM r) = [0b01#2 ++ 0b110#3 ++ r.code]
      ∧ exec (Instr.movToM r) s = .next (s.writeMem (s.h ++ s.l) (s.rd8 (.reg r))))

/-- MVI loads a register, or the byte at HL, with its immediate. Formalises R103, R104. -/
def Obligations.MoveImmediateByte : Prop :=
  ∀ (s : State) (d8 : Byte),
    (∀ r : Reg8, encode (Instr.mvi (.reg r) d8) = [0b00#2 ++ r.code ++ 0b110#3, d8]
      ∧ exec (Instr.mvi (.reg r) d8) s = .next (s.wr8 (.reg r) d8))
    ∧ encode (Instr.mvi .m d8) = [0x36, d8]
    ∧ exec (Instr.mvi .m d8) s = .next (s.writeMem (s.h ++ s.l) d8)

/-- LXI loads BC, DE, HL or SP with its 16-bit immediate. Formalises R105. -/
def Obligations.LoadPairImmediate : Prop :=
  ∀ (s : State) (lo hi : Byte),
    (∀ p : Pair, encode (Instr.lxi p (hi ++ lo)) = [0b00#2 ++ p.code ++ 0b0001#4, lo, hi])
    ∧ exec (.lxiB (hi ++ lo)) s = .next { s with b := hi, c := lo }
    ∧ exec (.lxiD (hi ++ lo)) s = .next { s with d := hi, e := lo }
    ∧ exec (.lxiH (hi ++ lo)) s = .next { s with h := hi, l := lo }
    ∧ exec (.lxiSP (hi ++ lo)) s = .next { s with sp := hi ++ lo }

/-- LDA and STA move A from and to a direct address. Formalises R106, R107. -/
def Obligations.LoadAndStoreADirect : Prop :=
  ∀ (s : State) (lo hi : Byte),
    encode (.lda (hi ++ lo)) = [0x3A, lo, hi] ∧ encode (.sta (hi ++ lo)) = [0x32, lo, hi]
    ∧ exec (.lda (hi ++ lo)) s = .next { s with a := s.readMem (hi ++ lo) }
    ∧ exec (.sta (hi ++ lo)) s = .next (s.writeMem (hi ++ lo) s.a)

/-- LHLD and SHLD move HL from and to two bytes at a direct address, low byte first. Formalises R108, R109. -/
def Obligations.LoadAndStoreHLDirect : Prop :=
  ∀ (s : State) (lo hi : Byte),
    encode (.lhld (hi ++ lo)) = [0x2A, lo, hi] ∧ encode (.shld (hi ++ lo)) = [0x22, lo, hi]
    ∧ exec (.lhld (hi ++ lo)) s =
        .next { s with l := s.readMem (hi ++ lo), h := s.readMem ((hi ++ lo : Word) + 1) }
    ∧ exec (.shld (hi ++ lo)) s = .next ((s.writeMem (hi ++ lo) s.l).writeMem ((hi ++ lo : Word) + 1) s.h)

/-- LDAX and STAX move A from and to the byte addressed by BC or DE. Formalises R110, R111. -/
def Obligations.LoadAndStoreAByPair : Prop :=
  (encode .ldaxB = [0x0A] ∧ encode .ldaxD = [0x1A] ∧ encode .staxB = [0x02] ∧ encode .staxD = [0x12])
    ∧ ∀ s : State,
      exec .ldaxB s = .next { s with a := s.readMem (s.b ++ s.c) }
      ∧ exec .ldaxD s = .next { s with a := s.readMem (s.d ++ s.e) }
      ∧ exec .staxB s = .next (s.writeMem (s.b ++ s.c) s.a)
      ∧ exec .staxD s = .next (s.writeMem (s.d ++ s.e) s.a)

/-- XCHG exchanges D with H and E with L. Formalises R112. -/
def Obligations.ExchangeDEAndHL : Prop :=
  encode .xchg = [0xEB]
    ∧ ∀ s : State, exec .xchg s = .next { s with d := s.h, e := s.l, h := s.d, l := s.e }

/-- SZP, add8, sub8 and logic8 return and write exactly what their rules say. Formalises R120, R121, R122, R160. -/
def Obligations.AluPrimitivesCompute : Prop :=
  ∀ (a b : Byte) (k : Bool) (f : Flags),
    (SignZeroParity a (szp a f) ∧ (szp a f).ac = f.ac ∧ (szp a f).cy = f.cy)
    ∧ IsSum a b k (add8 a b k f).1 (add8 a b k f).2
    ∧ IsDifference a b k (sub8 a b k f).1 (sub8 a b k f).2
    ∧ IsLogicFlags a (logic8 a f)

/-- ADD, ADC, ADI and ACI: A becomes the sum, all five flags are written, nothing else changes. Formalises R125, R126,
R127, R128, R133, R134. -/
def Obligations.AddAndAddWithCarry : Prop :=
  ∀ (s : State) (x : Opnd8) (d8 : Byte),
    (encode (Instr.alu .add x) = [0b10000#5 ++ x.code]
      ∧ ∃ v f, IsSum s.a (s.rd8 x) false v f ∧ exec (Instr.alu .add x) s = .next { s with a := v, flags := f })
    ∧ (encode (Instr.alu .adc x) = [0b10001#5 ++ x.code]
      ∧ ∃ v f, IsSum s.a (s.rd8 x) s.flags.cy v f
        ∧ exec (Instr.alu .adc x) s = .next { s with a := v, flags := f })
    ∧ (encode (.adi d8) = [0xC6, d8]
      ∧ ∃ v f, IsSum s.a d8 false v f ∧ exec (.adi d8) s = .next { s with a := v, flags := f })
    ∧ (encode (.aci d8) = [0xCE, d8]
      ∧ ∃ v f, IsSum s.a d8 s.flags.cy v f ∧ exec (.aci d8) s = .next { s with a := v, flags := f })

/-- SUB, SBB, SUI and SBI: A becomes the difference, all five flags are written, nothing else changes. Formalises
R129, R130, R131, R132, R135, R136. -/
def Obligations.SubtractAndSubtractWithBorrow : Prop :=
  ∀ (s : State) (x : Opnd8) (d8 : Byte),
    (encode (Instr.alu .sub x) = [0b10010#5 ++ x.code]
      ∧ ∃ v f, IsDifference s.a (s.rd8 x) false v f
        ∧ exec (Instr.alu .sub x) s = .next { s with a := v, flags := f })
    ∧ (encode (Instr.alu .sbb x) = [0b10011#5 ++ x.code]
      ∧ ∃ v f, IsDifference s.a (s.rd8 x) s.flags.cy v f
        ∧ exec (Instr.alu .sbb x) s = .next { s with a := v, flags := f })
    ∧ (encode (.sui d8) = [0xD6, d8]
      ∧ ∃ v f, IsDifference s.a d8 false v f ∧ exec (.sui d8) s = .next { s with a := v, flags := f })
    ∧ (encode (.sbi d8) = [0xDE, d8]
      ∧ ∃ v f, IsDifference s.a d8 s.flags.cy v f ∧ exec (.sbi d8) s = .next { s with a := v, flags := f })

/-- INR and DCR: one more or one less, S Z AC P as add8 or sub8 by one writes them, CY kept. Formalises R137, R138,
R139, R140. -/
def Obligations.IncrementAndDecrementKeepCarry : Prop :=
  ∀ (s : State) (x : Opnd8),
    (encode (Instr.inr x) = [0b00#2 ++ x.code ++ 0b100#3]
      ∧ ∃ v f, IsSum (s.rd8 x) 1 false v f
        ∧ exec (Instr.inr x) s = .next { s.wr8 x v with flags := { f with cy := s.flags.cy } })
    ∧ (encode (Instr.dcr x) = [0b00#2 ++ x.code ++ 0b101#3]
      ∧ ∃ v f, IsDifference (s.rd8 x) 1 false v f
        ∧ exec (Instr.dcr x) s = .next { s.wr8 x v with flags := { f with cy := s.flags.cy } })

/-- INR then DCR, or DCR then INR, of the same operand restores it and leaves Carry. Derived from R124, R137, R138,
R139, R140. -/
def Obligations.IncrementThenDecrementRestores : Prop :=
  ∀ (s : State) (x : Opnd8), s.Inv →
    (∃ t, execAll [Instr.inr x, Instr.dcr x] s = .next t ∧ t.flags.cy = s.flags.cy
      ∧ { t with flags := s.flags } = s)
    ∧ (∃ t, execAll [Instr.dcr x, Instr.inr x] s = .next t ∧ t.flags.cy = s.flags.cy
      ∧ { t with flags := s.flags } = s)

/-- INX, DCX and DAD: 16-bit arithmetic modulo 65536; INX and DCX write no flag, DAD writes CY alone. Formalises R141,
R142, R143. -/
def Obligations.PairIncrementDecrementAdd : Prop :=
  ∀ (s : State) (p : Pair),
    (encode (Instr.inx p) = [0b00#2 ++ p.code ++ 0b0011#4]
      ∧ exec (Instr.inx p) s = .next (s.setPair p (BitVec.ofNat 16 ((s.pair p).toNat + 1))))
    ∧ (encode (Instr.dcx p) = [0b00#2 ++ p.code ++ 0b1011#4]
      ∧ exec (Instr.dcx p) s = .next (s.setPair p (BitVec.ofInt 16 ((s.pair p).toNat - 1))))
    ∧ (encode (Instr.dad p) = [0b00#2 ++ p.code ++ 0b1001#4]
      ∧ exec (Instr.dad p) s = .next { s.setPair .hl (s.pair .hl + s.pair p) with
          flags := { s.flags with cy := decide (65536 ≤ (s.pair .hl).toNat + (s.pair p).toNat) } })

/-- DAA corrects A by the textbook conditions; CY is never cleared and says whether 0x60 was added. Formalises R144.
-/
def Obligations.DecimalAdjustA : Prop :=
  encode .daa = [0x27]
    ∧ ∀ s : State,
      let lo := s.a.toNat % 16
      let hi := s.a.toNat / 16
      let low := if s.flags.ac = true ∨ lo > 9 then 0x06 else 0
      let high := if s.flags.cy = true ∨ hi > 9 ∨ (hi ≥ 9 ∧ lo > 9) then 0x60 else 0
      ∃ v f, exec .daa s = .next { s with a := v, flags := f }
        ∧ v.toNat = (s.a.toNat + low + high) % 256
        ∧ (f.cy = true ↔ s.flags.cy = true ∨ 255 < s.a.toNat + low + high)
        ∧ (f.cy = true ↔ high = 0x60)
        ∧ (f.ac = true ↔ 15 < lo + low)
        ∧ SignZeroParity v f

/-- ADC B then DAA adds packed BCD: the sum modulo 100 in A and the decimal carry in CY, for all 20000 triples.
Derived from R127, R144, spec/95_test_vectors.md section 2.7. -/
def Obligations.DecimalAdditionIsCorrect : Prop :=
  ∀ (s : State) (x y : Nat), x < 100 → y < 100 → s.a = bcd x → s.b = bcd y →
    ∃ f, execAll [.adcB, .daa] s =
        .next { s with a := bcd ((x + y + s.flags.cy.toNat) % 100), flags := f }
      ∧ (f.cy = true ↔ 99 < x + y + s.flags.cy.toNat)

/-- ANA, XRA, ORA, ANI, XRI and ORI: bitwise results in A, CY and AC cleared, S Z P from the result. Formalises R161,
R162, R163, R164, R165, R166, R169, R170, R171. -/
def Obligations.LogicalOperations : Prop :=
  ∀ (s : State) (x : Opnd8) (d8 : Byte),
    (encode (Instr.alu .ana x) = [0b10100#5 ++ x.code] ∧ encode (.ani d8) = [0xE6, d8]
      ∧ (∃ f, IsLogicFlags (s.a &&& s.rd8 x) f
        ∧ exec (Instr.alu .ana x) s = .next { s with a := s.a &&& s.rd8 x, flags := f })
      ∧ (∃ f, IsLogicFlags (s.a &&& d8) f ∧ exec (.ani d8) s = .next { s with a := s.a &&& d8, flags := f }))
    ∧ (encode (Instr.alu .xra x) = [0b10101#5 ++ x.code] ∧ encode (.xri d8) = [0xEE, d8]
      ∧ (∃ f, IsLogicFlags (s.a ^^^ s.rd8 x) f
        ∧ exec (Instr.alu .xra x) s = .next { s with a := s.a ^^^ s.rd8 x, flags := f })
      ∧ (∃ f, IsLogicFlags (s.a ^^^ d8) f ∧ exec (.xri d8) s = .next { s with a := s.a ^^^ d8, flags := f }))
    ∧ (encode (Instr.alu .ora x) = [0b10110#5 ++ x.code] ∧ encode (.ori d8) = [0xF6, d8]
      ∧ (∃ f, IsLogicFlags (s.a ||| s.rd8 x) f
        ∧ exec (Instr.alu .ora x) s = .next { s with a := s.a ||| s.rd8 x, flags := f })
      ∧ (∃ f, IsLogicFlags (s.a ||| d8) f ∧ exec (.ori d8) s = .next { s with a := s.a ||| d8, flags := f }))

/-- CMP and CPI write the five flags of the subtraction and nothing else; Z iff equal, CY iff A is below. Formalises
R167, R168, R172. -/
def Obligations.CompareWritesFlagsOnly : Prop :=
  ∀ (s : State) (x : Opnd8) (d8 : Byte),
    (encode (Instr.alu .cmp x) = [0b10111#5 ++ x.code]
      ∧ ∃ v f, IsDifference s.a (s.rd8 x) false v f ∧ (f.z = true ↔ s.a = s.rd8 x)
        ∧ (f.cy = true ↔ s.a.toNat < (s.rd8 x).toNat)
        ∧ exec (Instr.alu .cmp x) s = .next { s with flags := f })
    ∧ (encode (.cpi d8) = [0xFE, d8]
      ∧ ∃ v f, IsDifference s.a d8 false v f ∧ (f.z = true ↔ s.a = d8)
        ∧ (f.cy = true ↔ s.a.toNat < d8.toNat) ∧ exec (.cpi d8) s = .next { s with flags := f })

/-- RLC, RRC, RAL and RAR move A by one bit; the bit that leaves goes to CY and no other flag changes. Formalises
R173, R174, R175, R176. -/
def Obligations.RotateByOneBit : Prop :=
  (encode .rlc = [0x07] ∧ encode .rrc = [0x0F] ∧ encode .ral = [0x17] ∧ encode .rar = [0x1F])
    ∧ ∀ s : State,
      (∃ v, v.toNat = (2 * s.a.toNat + s.a.toNat / 128) % 256
        ∧ exec .rlc s = .next { s with a := v, flags := { s.flags with cy := s.a.getLsbD 7 } })
      ∧ (∃ v, v.toNat = s.a.toNat / 2 + 128 * (s.a.toNat % 2)
        ∧ exec .rrc s = .next { s with a := v, flags := { s.flags with cy := s.a.getLsbD 0 } })
      ∧ (∃ v, v.toNat = (2 * s.a.toNat + s.flags.cy.toNat) % 256
        ∧ exec .ral s = .next { s with a := v, flags := { s.flags with cy := s.a.getLsbD 7 } })
      ∧ (∃ v, v.toNat = s.a.toNat / 2 + 128 * s.flags.cy.toNat
        ∧ exec .rar s = .next { s with a := v, flags := { s.flags with cy := s.a.getLsbD 0 } })

/-- Eight RLC or RRC restore A; nine RAL or RAR restore A and CY. Derived from R173, R174, R175, R176. -/
def Obligations.RotateRingsRestore : Prop :=
  ∀ s : State,
    (∃ b, execAll (List.replicate 8 .rlc) s = .next { s with flags := { s.flags with cy := b } })
    ∧ (∃ b, execAll (List.replicate 8 .rrc) s = .next { s with flags := { s.flags with cy := b } })
    ∧ execAll (List.replicate 9 .ral) s = .next s
    ∧ execAll (List.replicate 9 .rar) s = .next s

/-- CMA inverts A without flags; CMC inverts CY; STC sets CY. Formalises R177, R178, R179. -/
def Obligations.ComplementAndCarryOperations : Prop :=
  (encode .cma = [0x2F] ∧ encode .cmc = [0x3F] ∧ encode .stc = [0x37])
    ∧ ∀ s : State,
      exec .cma s = .next { s with a := BitVec.ofNat 8 (255 - s.a.toNat) }
      ∧ exec .cmc s = .next { s with flags := { s.flags with cy := !s.flags.cy } }
      ∧ exec .stc s = .next { s with flags := { s.flags with cy := true } }

/-- JMP goes to its target; a conditional jump does when its condition holds and else falls through. Formalises R190,
R191. -/
def Obligations.JumpsAndConditionalJumps : Prop :=
  ∀ (s : State) (cc : Cond) (lo hi : Byte),
    (encode (.jmp (hi ++ lo)) = [0xC3, lo, hi] ∧ exec (.jmp (hi ++ lo)) s = .next { s with pc := hi ++ lo })
    ∧ encode (Instr.jccc cc (hi ++ lo)) = [0b11#2 ++ cc.code ++ 0b010#3, lo, hi]
    ∧ (s.cond cc = true → exec (Instr.jccc cc (hi ++ lo)) s = .next { s with pc := hi ++ lo })
    ∧ (s.cond cc = false → exec (Instr.jccc cc (hi ++ lo)) s = .next s)

/-- CALL pushes the address after the whole instruction and jumps; a conditional call does when its condition holds.
Formalises R192, R193. -/
def Obligations.CallsPushTheReturnAddress : Prop :=
  ∀ (s : State) (cc : Cond) (lo hi : Byte),
    (encode (.call (hi ++ lo)) = [0xCD, lo, hi]
      ∧ exec (.call (hi ++ lo)) s = .next { pushed s (hi8 s.pc) (lo8 s.pc) with pc := hi ++ lo })
    ∧ encode (Instr.cccc cc (hi ++ lo)) = [0b11#2 ++ cc.code ++ 0b100#3, lo, hi]
    ∧ (s.cond cc = true →
      exec (Instr.cccc cc (hi ++ lo)) s = .next { pushed s (hi8 s.pc) (lo8 s.pc) with pc := hi ++ lo })
    ∧ (s.cond cc = false → exec (Instr.cccc cc (hi ++ lo)) s = .next s)

/-- RET pops PC; a conditional return does when its condition holds. Formalises R194, R195. -/
def Obligations.ReturnsPopPC : Prop :=
  ∀ (s : State) (cc : Cond),
    (encode .ret = [0xC9]
      ∧ exec .ret s = .next { s with pc := s.readMem (s.sp + 1) ++ s.readMem s.sp, sp := s.sp + 2 })
    ∧ encode (Instr.rccc cc) = [0b11#2 ++ cc.code ++ 0b000#3]
    ∧ (s.cond cc = true → exec (Instr.rccc cc) s =
        .next { s with pc := s.readMem (s.sp + 1) ++ s.readMem s.sp, sp := s.sp + 2 })
    ∧ (s.cond cc = false → exec (Instr.rccc cc) s = .next s)

/-- RST n pushes the address after it and goes to 8 n. Formalises R196. -/
def Obligations.RestartsCallLowMemory : Prop :=
  ∀ (s : State) (n : Fin 8),
    encode (Instr.rst n) = [0b11#2 ++ BitVec.ofNat 3 n.val ++ 0b111#3]
    ∧ exec (Instr.rst n) s =
        .next { pushed s (hi8 s.pc) (lo8 s.pc) with pc := BitVec.ofNat 16 (8 * n.val) }

/-- PCHL copies HL into PC, SPHL copies HL into SP. Formalises R197, R215. -/
def Obligations.CopyHLToPCOrSP : Prop :=
  (encode .pchl = [0xE9] ∧ encode .sphl = [0xF9])
    ∧ ∀ s : State, exec .pchl s = .next { s with pc := s.h ++ s.l }
      ∧ exec .sphl s = .next { s with sp := s.h ++ s.l }

/-- PUSH and POP of BC, DE and HL. Formalises R210, R212. -/
def Obligations.PushAndPopPairs : Prop :=
  (encode .pushB = [0xC5] ∧ encode .pushD = [0xD5] ∧ encode .pushH = [0xE5]
      ∧ encode .popB = [0xC1] ∧ encode .popD = [0xD1] ∧ encode .popH = [0xE1])
    ∧ ∀ s : State,
      (exec .pushB s = .next (pushed s s.b s.c) ∧ exec .pushD s = .next (pushed s s.d s.e)
        ∧ exec .pushH s = .next (pushed s s.h s.l))
      ∧ exec .popB s = .next { s with c := s.readMem s.sp, b := s.readMem (s.sp + 1), sp := s.sp + 2 }
      ∧ exec .popD s = .next { s with e := s.readMem s.sp, d := s.readMem (s.sp + 1), sp := s.sp + 2 }
      ∧ exec .popH s = .next { s with l := s.readMem s.sp, h := s.readMem (s.sp + 1), sp := s.sp + 2 }

/-- PUSH PSW stores A and the packed flags; POP PSW loads them, ignoring the fixed bits. Formalises R211, R213. -/
def Obligations.PushAndPopStatus : Prop :=
  (encode .pushPSW = [0xF5] ∧ encode .popPSW = [0xF1])
    ∧ ∀ s : State,
      exec .pushPSW s = .next (pushed s s.a (packPSW s.flags))
      ∧ (let b := s.readMem s.sp
        exec .popPSW s = .next { s with
          flags := ⟨b.getLsbD 7, b.getLsbD 6, b.getLsbD 4, b.getLsbD 2, b.getLsbD 0⟩
          a := s.readMem (s.sp + 1)
          sp := s.sp + 2 })
      ∧ (s.Inv → execAll [.pushPSW, .popPSW] s =
          .next { s with mem := (pushed s s.a (packPSW s.flags)).mem })

/-- XTHL exchanges L with the byte at SP and H with the byte at SP + 1; SP stays. Formalises R214. -/
def Obligations.ExchangeHLWithStackTop : Prop :=
  encode .xthl = [0xE3]
    ∧ ∀ s : State, exec .xthl s = .next { (s.writeMem s.sp s.l).writeMem (s.sp + 1) s.h with
        l := s.readMem s.sp
        h := s.readMem (s.sp + 1) }

/-- IN reads a port into A, OUT writes A to a port. Formalises R216, R217. -/
def Obligations.PortInputAndOutput : Prop :=
  ∀ (s : State) (p8 : Byte),
    encode (.inPort p8) = [0xDB, p8] ∧ encode (.outPort p8) = [0xD3, p8]
    ∧ exec (.inPort p8) s = .next { s with a := s.readPort p8 }
    ∧ exec (.outPort p8) s = .next (s.writePort p8 s.a)

/-- EI, DI, RIM, SIM and NOP change nothing beyond the advance of PC. Formalises R218, R219, R220, R221, R222. -/
def Obligations.InertInstructionsDoNothing : Prop :=
  (encode .ei = [0xFB] ∧ encode .di = [0xF3] ∧ encode .rim = [0x20] ∧ encode .sim = [0x30]
      ∧ encode .nop = [0x00])
    ∧ ∀ s : State, exec .ei s = .next s ∧ exec .di s = .next s ∧ exec .rim s = .next s
      ∧ exec .sim s = .next s ∧ exec .nop s = .next s

/-- HLT sets halted and nothing else; the next step changes nothing. Formalises R223. -/
def Obligations.HaltSetsHaltedOnly : Prop :=
  encode .hlt = [0x76]
    ∧ ∀ s : State, exec .hlt s = .next { s with halted := true }
      ∧ step { s with halted := true } = .next { s with halted := true }

/-- Each unassigned byte is a NOP if NOPALIAS holds it, else the fail-stop, for every value of NOPALIAS. Formalises
R224, R225, R240. -/
def Obligations.UnassignedBytesNopOrFailStop : Prop :=
  (encode .nopAlias08 = [0x08] ∧ encode .nopAlias10 = [0x10] ∧ encode .nopAlias18 = [0x18]
      ∧ encode .nopAlias28 = [0x28] ∧ encode .nopAlias38 = [0x38] ∧ encode .failStopCB = [0xCB]
      ∧ encode .failStopD9 = [0xD9] ∧ encode .failStopDD = [0xDD] ∧ encode .failStopED = [0xED]
      ∧ encode .failStopFD = [0xFD])
    ∧ ∀ s : State,
      let stop := fun inSet : Bool => if inSet then s else { s with halted := true, illegal := true }
      exec .nopAlias08 s = .next (stop s.nopAlias.m08) ∧ exec .nopAlias10 s = .next (stop s.nopAlias.m10)
      ∧ exec .nopAlias18 s = .next (stop s.nopAlias.m18) ∧ exec .nopAlias28 s = .next (stop s.nopAlias.m28)
      ∧ exec .nopAlias38 s = .next (stop s.nopAlias.m38) ∧ exec .failStopCB s = .next (stop s.nopAlias.mCB)
      ∧ exec .failStopD9 s = .next (stop s.nopAlias.mD9) ∧ exec .failStopDD s = .next (stop s.nopAlias.mDD)
      ∧ exec .failStopED s = .next (stop s.nopAlias.mED) ∧ exec .failStopFD s = .next (stop s.nopAlias.mFD)

/-- No instruction changes a flag that the table of R30 does not give it. Formalises R123. -/
def Obligations.FlagFrame : Prop :=
  ∀ (i : Instr) (s t : State), exec i s = .next t →
    ((flagsWritten i).s = false → t.flags.s = s.flags.s)
    ∧ ((flagsWritten i).z = false → t.flags.z = s.flags.z)
    ∧ ((flagsWritten i).ac = false → t.flags.ac = s.flags.ac)
    ∧ ((flagsWritten i).p = false → t.flags.p = s.flags.p)
    ∧ ((flagsWritten i).cy = false → t.flags.cy = s.flags.cy)

/-- No instruction changes a register that is not its destination. Derived from R8, R20, R22. -/
def Obligations.RegisterFrame : Prop :=
  ∀ (i : Instr) (s t : State), exec i s = .next t → ∀ r, r ∉ destRegs i → t.reg r = s.reg r

/-- No instruction changes a byte of memory outside the bytes it stores to, nor a port it does not write. Derived from
R34, R35, R51, R57. -/
def Obligations.MemoryFrame : Prop :=
  ∀ (i : Instr) (s t : State), exec i s = .next t →
    (∀ x, x ∉ storedTo i s → t.readMem x = s.readMem x)
    ∧ (∀ p, i ≠ .outPort p → t.readPort p = s.readPort p)

/-- SP, PC, halted, illegal and the parameter change only where their rules say. Derived from R25, R26, R31, R32. -/
def Obligations.PointerAndStatusFrame : Prop :=
  ∀ (i : Instr) (s t : State), exec i s = .next t →
    (writesSP i s = false → t.sp = s.sp)
    ∧ (writesPC i s = false → t.pc = s.pc)
    ∧ (s.halted = true → t.halted = true)
    ∧ (t.halted ≠ s.halted → i = .hlt ∨ ∃ u, unassignedOf i = some u ∧ s.nopAlias.has u = false)
    ∧ (t.illegal ≠ s.illegal → t.illegal = true ∧ t.halted = true
        ∧ ∃ u, unassignedOf i = some u ∧ s.nopAlias.has u = false)
    ∧ t.nopAlias = s.nopAlias

/-- The machine after construction and reset is legal, with zero memory and ports and (the model's choice, log 1) the
default NOPALIAS. Derived from R37, R39, R80, spec/92_eei_decisions.md D2 and D4. -/
def Obligations.ResetStateIsLegal : Prop :=
  State.reset.Inv
    ∧ (∀ x, State.reset.readMem x = 0x00#8) ∧ (∀ p, State.reset.readPort p = 0x00#8)
    ∧ State.reset.hostReset = State.reset
    ∧ ∀ u, State.reset.nopAlias.has u = true ↔ u ∈ [.u08, .u10, .u18, .u28, .u38]

/-- reset gives every register its value in any state, keeps memory and ports, and is the only way out of HALTED.
Formalises R38, R261. -/
def Obligations.HostResetValues : Prop :=
  ∀ s : State,
    s.hostReset =
      { s with
        a := 0, b := 0, c := 0, d := 0, e := 0, h := 0, l := 0
        sp := 0xFFFE
        pc := 0x0000
        flags := { s := false, z := true, ac := false, p := true, cy := false }
        halted := false
        illegal := false }
    ∧ hostMove .reset s = .next s.hostReset
    ∧ s.hostReset.hostReset = s.hostReset
    ∧ ∀ (m : HostMove) (t : State), s.halted = true → hostMove m s = .next t → t.halted = false → m = .reset

/-- writeByte stores value mod 256 at address mod 65536 and changes nothing else; getState copies the registers.
Formalises R263, R265. -/
def Obligations.HostWriteByteAndGetState : Prop :=
  ∀ (s : State) (address value : Int), s.Inv →
    hostMove (.writeByte address value) s = .next (s.writeByte address value)
    ∧ (∀ x : Word, (((s.writeByte address value).readMem x).toNat : Int) =
        if (x.toNat : Int) = address % 65536 then value % 256 else ((s.readMem x).toNat : Int))
    ∧ s.writeByte address value = { s with mem := (s.writeByte address value).mem }
    ∧ (s.writeByte address value).getState = s.getState
    ∧ s.getState = ⟨s.a, s.b, s.c, s.d, s.e, s.h, s.l, s.sp, s.pc, s.flags, s.halted, s.illegal⟩

/-- A step from any legal state gives a legal state. Derived from R32, R34, R35, R37. -/
def Obligations.EveryStepKeepsTheInvariant : Prop :=
  ∀ s t : State, s.Inv → step s = .next t → t.Inv

/-- Every sequence of host moves completes and keeps the invariant. Derived from R32, R37, R267. -/
def Obligations.HostMovesKeepTheInvariant : Prop :=
  ∀ (ms : List HostMove) (s : State), s.Inv → ∃ t, hostMoves ms s = .next t ∧ t.Inv

/-- Once halted, nothing but reset changes anything beyond the memory bytes the host writes. Derived from R90, R244,
R248, R253, R263. -/
def Obligations.HaltedIsFinalUntilReset : Prop :=
  ∀ s : State, s.halted = true →
    (∀ k, Host.Core.run Sys2Proof.core k s = .next s)
    ∧ (∀ ms : List HostMove, HostMove.reset ∉ ms →
      ∃ t, hostMoves ms s = .next t ∧ t = { s with mem := t.mem }
        ∧ ∀ x : Word,
          (∀ address value, HostMove.writeByte address value ∈ ms → (x.toNat : Int) ≠ address % 65536) →
          t.readMem x = s.readMem x)
    ∧ ∃ t, hostMove .reset s = .next t ∧ t.halted = false

/-- No instruction reads halted or illegal. Derived from R31, R32, spec/92_eei_decisions.md D3. -/
def Obligations.StatusBitsAreNeverRead : Prop :=
  ∀ (i : Instr) (s : State) (x y : Bool), ∃ t t' : State,
    exec i s = .next t ∧ exec i { s with halted := x, illegal := y } = .next t'
    ∧ { t' with halted := false, illegal := false } = { t with halted := false, illegal := false }

/-- A step halts a running core in exactly two ways: HLT and the fail-stop, told apart by illegal. Derived from R91,
R223, R240, R241, R243, R244. The numbers 0 and 1, and the bit `illegal` itself, are decision D3 of the spec (log 14).
-/
def Obligations.HaltingHasTwoCauses : Prop :=
  HaltCause.number .hlt = 0 ∧ HaltCause.number .illegalOpcode = 1
    ∧ ∀ s : State, s.Inv → s.halted = false → ∃ t, step s = .next t
      ∧ (t.halted = true ↔ s.readMem s.pc = 0x76
          ∨ ∃ u, s.readMem s.pc = unassignedByte u ∧ s.nopAlias.has u = false)
      ∧ (s.readMem s.pc = 0x76 → t = { s with pc := s.pc + 1, halted := true }
          ∧ t.haltCause = some .hlt ∧ t.endedWell = true)
      ∧ (∀ u, s.readMem s.pc = unassignedByte u → s.nopAlias.has u = false →
          t = { s with pc := s.pc + 1, halted := true, illegal := true }
          ∧ t.haltCause = some .illegalOpcode ∧ t.endedWell = false
          ∧ t.faultAddress = s.pc ∧ t.faultByte = s.readMem s.pc)
end

