-- ==== Sys2Proof/Laws/Bits.lean ====
section
/-! SUPPORT. The concatenation and its two halves, as numbers and as inverses. -/

namespace Sys2Proof

theorem cat_toNat (h l : Byte) : (cat h l).toNat = 256 * h.toNat + l.toNat := by
  simp only [cat, BitVec.toNat_append]
  rw [← Nat.shiftLeft_add_eq_or_of_lt l.isLt, Nat.shiftLeft_eq]
  omega

theorem hi8_toNat (w : Word) : (hi8 w).toNat = w.toNat / 256 := by
  have := w.isLt
  simp only [hi8, BitVec.extractLsb'_toNat, Nat.shiftRight_eq_div_pow]
  omega

theorem lo8_toNat (w : Word) : (lo8 w).toNat = w.toNat % 256 := by
  simp [lo8, BitVec.extractLsb'_toNat]

@[simp] theorem hi8_cat (h l : Byte) : hi8 (cat h l) = h := by
  have := h.isLt; have := l.isLt
  apply BitVec.eq_of_toNat_eq
  rw [hi8_toNat, cat_toNat]; omega

@[simp] theorem lo8_cat (h l : Byte) : lo8 (cat h l) = l := by
  have := h.isLt; have := l.isLt
  apply BitVec.eq_of_toNat_eq
  rw [lo8_toNat, cat_toNat]; omega

@[simp] theorem cat_hi8_lo8 (w : Word) : cat (hi8 w) (lo8 w) = w := by
  apply BitVec.eq_of_toNat_eq
  rw [cat_toNat, hi8_toNat, lo8_toNat]; omega

theorem cat_inj {h l h' l' : Byte} : cat h l = cat h' l' ↔ h = h' ∧ l = l' := by
  constructor
  · intro e
    exact ⟨by simpa using congrArg hi8 e, by simpa using congrArg lo8 e⟩
  · rintro ⟨rfl, rfl⟩; rfl

end Sys2Proof
end

