-- ==== Sys2Proof/Laws/Decode.lean ====
section
/-! SUPPORT. The opcode map and the encoder, entry by entry: what each of the 256 bytes selects encodes with that byte. -/

namespace Sys2Proof

/-- A property of every byte is one of 256 numbers. -/
theorem byte_cases {P : Byte → Prop} (h : ∀ n : Fin 256, P (BitVec.ofNat 8 n.val)) (b : Byte) : P b := by
  simpa using h ⟨b.toNat, b.isLt⟩

/-- The instruction an entry makes encodes as the opcode byte and its operand bytes. -/
def Entry.EncodesAs (op : Byte) : Entry → Prop
  | .f1 i => encode i = [op]
  | .f2 make => ∀ d, encode (make d) = [op, d]
  | .f3 make => ∀ w, encode (make w) = [op, lo8 w, hi8 w]

/-- The map of R74 and the layouts of R71 agree on every byte. -/
theorem opcodeMap_encodesAs (op : Byte) : (opcodeMap op).EncodesAs op := by
  revert op
  apply byte_cases
  intro n
  fin_cases n <;> first | rfl | exact fun _ => rfl

theorem decode_f1 {op : Byte} {i : Instr} (h : opcodeMap op = .f1 i) (rest : List Byte) :
    decode (op :: rest) = .instr i rest := by simp [decode, h, decodeEntry]

theorem decode_f2 {op : Byte} {make : Byte → Instr} (h : opcodeMap op = .f2 make) (d : Byte) (rest : List Byte) :
    decode (op :: d :: rest) = .instr (make d) rest := by simp [decode, h, decodeEntry]

theorem decode_f3 {op : Byte} {make : Word → Instr} (h : opcodeMap op = .f3 make) (lo hi : Byte)
    (rest : List Byte) : decode (op :: lo :: hi :: rest) = .instr (make (cat hi lo)) rest := by
  simp [decode, h, decodeEntry]

end Sys2Proof
end

