-- ==== Sys2Proof/Laws/Families.lean ====
section
/-! SUPPORT. The opcode table by its shapes: a property of instructions is proved of each family at once, over its
operands, and of each instruction that stands alone. -/

namespace Sys2Proof

/-- Case analysis by family: 16 families with their operands and 49 single instructions (R75). -/
theorem Instr.by_family {P : Instr → Prop}
    (mov : ∀ (r : Reg8) (r2 : Reg8), P (Instr.mov r r2)) (movFromM : ∀ (r : Reg8), P (Instr.movFromM r))
    (movToM : ∀ (r : Reg8), P (Instr.movToM r)) (mvi : ∀ (x : Opnd8) (d8 : Byte), P (Instr.mvi x d8))
    (inr : ∀ (x : Opnd8), P (Instr.inr x)) (dcr : ∀ (x : Opnd8), P (Instr.dcr x))
    (alu : ∀ (f : AluOp) (x : Opnd8), P (Instr.alu f x))
    (aluImm : ∀ (f : AluOp) (d8 : Byte), P (Instr.aluImm f d8))
    (lxi : ∀ (p : Pair) (w : Word), P (Instr.lxi p w)) (inx : ∀ (p : Pair), P (Instr.inx p))
    (dcx : ∀ (p : Pair), P (Instr.dcx p)) (dad : ∀ (p : Pair), P (Instr.dad p))
    (jccc : ∀ (cc : Cond) (w : Word), P (Instr.jccc cc w))
    (cccc : ∀ (cc : Cond) (w : Word), P (Instr.cccc cc w)) (rccc : ∀ (cc : Cond), P (Instr.rccc cc))
    (rst : ∀ (n : Fin 8), P (Instr.rst n)) (shld : ∀ a16, P (.shld a16)) (lhld : ∀ a16, P (.lhld a16))
    (sta : ∀ a16, P (.sta a16)) (lda : ∀ a16, P (.lda a16)) (jmp : ∀ a16, P (.jmp a16))
    (call : ∀ a16, P (.call a16)) (outPort : ∀ p8, P (.outPort p8)) (inPort : ∀ p8, P (.inPort p8))
    (nop : P .nop) (staxB : P .staxB) (rlc : P .rlc) (nopAlias08 : P .nopAlias08) (ldaxB : P .ldaxB)
    (rrc : P .rrc) (nopAlias10 : P .nopAlias10) (staxD : P .staxD) (ral : P .ral) (nopAlias18 : P .nopAlias18)
    (ldaxD : P .ldaxD) (rar : P .rar) (rim : P .rim) (daa : P .daa) (nopAlias28 : P .nopAlias28) (cma : P .cma)
    (sim : P .sim) (stc : P .stc) (nopAlias38 : P .nopAlias38) (cmc : P .cmc) (hlt : P .hlt) (popB : P .popB)
    (pushB : P .pushB) (ret : P .ret) (failStopCB : P .failStopCB) (popD : P .popD) (pushD : P .pushD)
    (failStopD9 : P .failStopD9) (failStopDD : P .failStopDD) (popH : P .popH) (xthl : P .xthl)
    (pushH : P .pushH) (pchl : P .pchl) (xchg : P .xchg) (failStopED : P .failStopED) (popPSW : P .popPSW)
    (di : P .di) (pushPSW : P .pushPSW) (sphl : P .sphl) (ei : P .ei) (failStopFD : P .failStopFD)
    (i : Instr) : P i :=
  match i with
  | .lxiB d16 => lxi .bc d16
  | .lxiD d16 => lxi .de d16
  | .lxiH d16 => lxi .hl d16
  | .shld a16 => shld a16
  | .lhld a16 => lhld a16
  | .lxiSP d16 => lxi .sp d16
  | .sta a16 => sta a16
  | .lda a16 => lda a16
  | .jnz a16 => jccc .nz a16
  | .jmp a16 => jmp a16
  | .cnz a16 => cccc .nz a16
  | .jz a16 => jccc .z a16
  | .cz a16 => cccc .z a16
  | .call a16 => call a16
  | .jnc a16 => jccc .nc a16
  | .cnc a16 => cccc .nc a16
  | .jc a16 => jccc .c a16
  | .cc a16 => cccc .c a16
  | .jpo a16 => jccc .po a16
  | .cpo a16 => cccc .po a16
  | .jpe a16 => jccc .pe a16
  | .cpe a16 => cccc .pe a16
  | .jp a16 => jccc .p a16
  | .cp a16 => cccc .p a16
  | .jm a16 => jccc .m a16
  | .cm a16 => cccc .m a16
  | .mviB d8 => mvi (.reg .b) d8
  | .mviC d8 => mvi (.reg .c) d8
  | .mviD d8 => mvi (.reg .d) d8
  | .mviE d8 => mvi (.reg .e) d8
  | .mviH d8 => mvi (.reg .h) d8
  | .mviL d8 => mvi (.reg .l) d8
  | .mviM d8 => mvi .m d8
  | .mviA d8 => mvi (.reg .a) d8
  | .adi d8 => aluImm .add d8
  | .aci d8 => aluImm .adc d8
  | .outPort p8 => outPort p8
  | .sui d8 => aluImm .sub d8
  | .inPort p8 => inPort p8
  | .sbi d8 => aluImm .sbb d8
  | .ani d8 => aluImm .ana d8
  | .xri d8 => aluImm .xra d8
  | .ori d8 => aluImm .ora d8
  | .cpi d8 => aluImm .cmp d8
  | .nop => nop
  | .staxB => staxB
  | .inxB => inx .bc
  | .inrB => inr (.reg .b)
  | .dcrB => dcr (.reg .b)
  | .rlc => rlc
  | .nopAlias08 => nopAlias08
  | .dadB => dad .bc
  | .ldaxB => ldaxB
  | .dcxB => dcx .bc
  | .inrC => inr (.reg .c)
  | .dcrC => dcr (.reg .c)
  | .rrc => rrc
  | .nopAlias10 => nopAlias10
  | .staxD => staxD
  | .inxD => inx .de
  | .inrD => inr (.reg .d)
  | .dcrD => dcr (.reg .d)
  | .ral => ral
  | .nopAlias18 => nopAlias18
  | .dadD => dad .de
  | .ldaxD => ldaxD
  | .dcxD => dcx .de
  | .inrE => inr (.reg .e)
  | .dcrE => dcr (.reg .e)
  | .rar => rar
  | .rim => rim
  | .inxH => inx .hl
  | .inrH => inr (.reg .h)
  | .dcrH => dcr (.reg .h)
  | .daa => daa
  | .nopAlias28 => nopAlias28
  | .dadH => dad .hl
  | .dcxH => dcx .hl
  | .inrL => inr (.reg .l)
  | .dcrL => dcr (.reg .l)
  | .cma => cma
  | .sim => sim
  | .inxSP => inx .sp
  | .inrM => inr .m
  | .dcrM => dcr .m
  | .stc => stc
  | .nopAlias38 => nopAlias38
  | .dadSP => dad .sp
  | .dcxSP => dcx .sp
  | .inrA => inr (.reg .a)
  | .dcrA => dcr (.reg .a)
  | .cmc => cmc
  | .movBB => mov .b .b
  | .movBC => mov .b .c
  | .movBD => mov .b .d
  | .movBE => mov .b .e
  | .movBH => mov .b .h
  | .movBL => mov .b .l
  | .movBM => movFromM .b
  | .movBA => mov .b .a
  | .movCB => mov .c .b
  | .movCC => mov .c .c
  | .movCD => mov .c .d
  | .movCE => mov .c .e
  | .movCH => mov .c .h
  | .movCL => mov .c .l
  | .movCM => movFromM .c
  | .movCA => mov .c .a
  | .movDB => mov .d .b
  | .movDC => mov .d .c
  | .movDD => mov .d .d
  | .movDE => mov .d .e
  | .movDH => mov .d .h
  | .movDL => mov .d .l
  | .movDM => movFromM .d
  | .movDA => mov .d .a
  | .movEB => mov .e .b
  | .movEC => mov .e .c
  | .movED => mov .e .d
  | .movEE => mov .e .e
  | .movEH => mov .e .h
  | .movEL => mov .e .l
  | .movEM => movFromM .e
  | .movEA => mov .e .a
  | .movHB => mov .h .b
  | .movHC => mov .h .c
  | .movHD => mov .h .d
  | .movHE => mov .h .e
  | .movHH => mov .h .h
  | .movHL => mov .h .l
  | .movHM => movFromM .h
  | .movHA => mov .h .a
  | .movLB => mov .l .b
  | .movLC => mov .l .c
  | .movLD => mov .l .d
  | .movLE => mov .l .e
  | .movLH => mov .l .h
  | .movLL => mov .l .l
  | .movLM => movFromM .l
  | .movLA => mov .l .a
  | .movMB => movToM .b
  | .movMC => movToM .c
  | .movMD => movToM .d
  | .movME => movToM .e
  | .movMH => movToM .h
  | .movML => movToM .l
  | .hlt => hlt
  | .movMA => movToM .a
  | .movAB => mov .a .b
  | .movAC => mov .a .c
  | .movAD => mov .a .d
  | .movAE => mov .a .e
  | .movAH => mov .a .h
  | .movAL => mov .a .l
  | .movAM => movFromM .a
  | .movAA => mov .a .a
  | .addB => alu .add (.reg .b)
  | .addC => alu .add (.reg .c)
  | .addD => alu .add (.reg .d)
  | .addE => alu .add (.reg .e)
  | .addH => alu .add (.reg .h)
  | .addL => alu .add (.reg .l)
  | .addM => alu .add .m
  | .addA => alu .add (.reg .a)
  | .adcB => alu .adc (.reg .b)
  | .adcC => alu .adc (.reg .c)
  | .adcD => alu .adc (.reg .d)
  | .adcE => alu .adc (.reg .e)
  | .adcH => alu .adc (.reg .h)
  | .adcL => alu .adc (.reg .l)
  | .adcM => alu .adc .m
  | .adcA => alu .adc (.reg .a)
  | .subB => alu .sub (.reg .b)
  | .subC => alu .sub (.reg .c)
  | .subD => alu .sub (.reg .d)
  | .subE => alu .sub (.reg .e)
  | .subH => alu .sub (.reg .h)
  | .subL => alu .sub (.reg .l)
  | .subM => alu .sub .m
  | .subA => alu .sub (.reg .a)
  | .sbbB => alu .sbb (.reg .b)
  | .sbbC => alu .sbb (.reg .c)
  | .sbbD => alu .sbb (.reg .d)
  | .sbbE => alu .sbb (.reg .e)
  | .sbbH => alu .sbb (.reg .h)
  | .sbbL => alu .sbb (.reg .l)
  | .sbbM => alu .sbb .m
  | .sbbA => alu .sbb (.reg .a)
  | .anaB => alu .ana (.reg .b)
  | .anaC => alu .ana (.reg .c)
  | .anaD => alu .ana (.reg .d)
  | .anaE => alu .ana (.reg .e)
  | .anaH => alu .ana (.reg .h)
  | .anaL => alu .ana (.reg .l)
  | .anaM => alu .ana .m
  | .anaA => alu .ana (.reg .a)
  | .xraB => alu .xra (.reg .b)
  | .xraC => alu .xra (.reg .c)
  | .xraD => alu .xra (.reg .d)
  | .xraE => alu .xra (.reg .e)
  | .xraH => alu .xra (.reg .h)
  | .xraL => alu .xra (.reg .l)
  | .xraM => alu .xra .m
  | .xraA => alu .xra (.reg .a)
  | .oraB => alu .ora (.reg .b)
  | .oraC => alu .ora (.reg .c)
  | .oraD => alu .ora (.reg .d)
  | .oraE => alu .ora (.reg .e)
  | .oraH => alu .ora (.reg .h)
  | .oraL => alu .ora (.reg .l)
  | .oraM => alu .ora .m
  | .oraA => alu .ora (.reg .a)
  | .cmpB => alu .cmp (.reg .b)
  | .cmpC => alu .cmp (.reg .c)
  | .cmpD => alu .cmp (.reg .d)
  | .cmpE => alu .cmp (.reg .e)
  | .cmpH => alu .cmp (.reg .h)
  | .cmpL => alu .cmp (.reg .l)
  | .cmpM => alu .cmp .m
  | .cmpA => alu .cmp (.reg .a)
  | .rnz => rccc .nz
  | .popB => popB
  | .pushB => pushB
  | .rst0 => rst 0
  | .rz => rccc .z
  | .ret => ret
  | .failStopCB => failStopCB
  | .rst1 => rst 1
  | .rnc => rccc .nc
  | .popD => popD
  | .pushD => pushD
  | .rst2 => rst 2
  | .rc => rccc .c
  | .failStopD9 => failStopD9
  | .failStopDD => failStopDD
  | .rst3 => rst 3
  | .rpo => rccc .po
  | .popH => popH
  | .xthl => xthl
  | .pushH => pushH
  | .rst4 => rst 4
  | .rpe => rccc .pe
  | .pchl => pchl
  | .xchg => xchg
  | .failStopED => failStopED
  | .rst5 => rst 5
  | .rp => rccc .p
  | .popPSW => popPSW
  | .di => di
  | .pushPSW => pushPSW
  | .rst6 => rst 6
  | .rm => rccc .m
  | .sphl => sphl
  | .ei => ei
  | .failStopFD => failStopFD
  | .rst7 => rst 7

end Sys2Proof
end

