-- ==== Sys2Proof/Laws/Exec.lean ====
section
/-! SUPPORT. What `exec` calls for each family, over all its operands: the dispatch and the meanings read once, in the
model's own operations. -/

namespace Sys2Proof.Machine

theorem exec_mov (dst r : Reg8) (s : State) : exec (Instr.mov dst r) s = .next (s.setReg dst (s.reg r)) := by
  cases dst <;> cases r <;> rfl

theorem exec_movFromM (dst : Reg8) (s : State) : exec (Instr.movFromM dst) s = .next (s.setReg dst (s.rd8 .m)) := by
  cases dst <;> rfl

theorem exec_movToM (r : Reg8) (s : State) : exec (Instr.movToM r) s = .next (s.wr8 .m (s.reg r)) := by
  cases r <;> rfl

theorem exec_mvi (x : Opnd8) (d8 : Byte) (s : State) : exec (Instr.mvi x d8) s = .next (s.wr8 x d8) := by
  rcases x with ⟨_ | _⟩ | _ <;> rfl

theorem exec_inr (x : Opnd8) (s : State) : exec (Instr.inr x) s = .next (increment x s) := by
  rcases x with ⟨_ | _⟩ | _ <;> rfl

theorem exec_dcr (x : Opnd8) (s : State) : exec (Instr.dcr x) s = .next (decrement x s) := by
  rcases x with ⟨_ | _⟩ | _ <;> rfl

/-- What each of the eight ALU operations does with its second operand `v` (R125 to R136, R161 to R172). -/
def aluEffect (f : AluOp) (v : Byte) (s : State) : State :=
  match f with
  | .add => addToA v false s
  | .adc => addToA v s.flags.cy s
  | .sub => subFromA v false s
  | .sbb => subFromA v s.flags.cy s
  | .ana => andA v s
  | .xra => xorA v s
  | .ora => orA v s
  | .cmp => compareA v s

theorem exec_alu (f : AluOp) (x : Opnd8) (s : State) :
    exec (Instr.alu f x) s = .next (aluEffect f (s.rd8 x) s) := by
  cases f <;> rcases x with ⟨_ | _⟩ | _ <;> rfl

theorem exec_aluImm (f : AluOp) (d8 : Byte) (s : State) :
    exec (Instr.aluImm f d8) s = .next (aluEffect f d8 s) := by cases f <;> rfl

theorem exec_lxi (p : Pair) (w : Word) (s : State) : exec (Instr.lxi p w) s = .next (s.setPair p w) := by
  cases p <;> rfl

theorem exec_inx (p : Pair) (s : State) : exec (Instr.inx p) s = .next (s.setPair p (s.pair p + 1)) := by
  cases p <;> rfl

theorem exec_dcx (p : Pair) (s : State) : exec (Instr.dcx p) s = .next (s.setPair p (s.pair p - 1)) := by
  cases p <;> rfl

theorem exec_dad (p : Pair) (s : State) : exec (Instr.dad p) s = .next (addToHL (s.pair p) s) := by
  cases p <;> rfl

theorem exec_jccc (cc : Cond) (t : Word) (s : State) : exec (Instr.jccc cc t) s = .next (jumpIf cc t s) := by
  cases cc <;> rfl

theorem exec_cccc (cc : Cond) (t : Word) (s : State) : exec (Instr.cccc cc t) s = .next (callIf cc t s) := by
  cases cc <;> rfl

theorem exec_rccc (cc : Cond) (s : State) : exec (Instr.rccc cc) s = .next (retIf cc s) := by
  cases cc <;> rfl

theorem exec_rst (n : Fin 8) (s : State) : exec (Instr.rst n) s = .next (s.call (rstTarget n)) := by
  fin_cases n <;> rfl

end Sys2Proof.Machine
end

