-- ==== Sys2Proof/Laws/Memory.lean ====
section
/-! SUPPORT. What the operations of a byte array do: reads after writes, and the canonical form, which every write
keeps and which makes equal arrays equal data. -/

namespace Sys2Proof.Machine

@[simp] theorem Memory.read_nil (a : Nat) : Memory.read [] a = blankByte := rfl

theorem Memory.read_cons (k : Nat) (v : Byte) (rest : Memory) (a : Nat) :
    Memory.read ((k, v) :: rest) a = if k = a then v else Memory.read rest a := rfl

theorem Memory.wfFrom_cons {size lo k : Nat} {v : Byte} {rest : Memory} :
    Memory.wfFrom size lo ((k, v) :: rest) = true ↔
      lo ≤ k ∧ k < size ∧ v ≠ blankByte ∧ Memory.wfFrom size (k + 1) rest = true := by
  simp [Memory.wfFrom, and_assoc]

/-- A lower starting point asks for less. -/
theorem Memory.wfFrom_mono {size lo lo' : Nat} (h : lo' ≤ lo) :
    ∀ {m : Memory}, Memory.wfFrom size lo m = true → Memory.wfFrom size lo' m = true
  | [], _ => rfl
  | (_, _) :: _, hm => by
    rw [Memory.wfFrom_cons] at hm ⊢
    exact ⟨by omega, hm.2⟩

/-- Below its starting point a canonical array lists nothing. -/
theorem Memory.read_below {size lo a : Nat} (ha : a < lo) :
    ∀ {m : Memory}, Memory.wfFrom size lo m = true → Memory.read m a = blankByte
  | [], _ => rfl
  | (k, v) :: rest, hm => by
    rw [Memory.wfFrom_cons] at hm
    rw [Memory.read_cons, if_neg (by omega)]
    exact Memory.read_below (by omega) hm.2.2.2

theorem Memory.read_consCell_same {size a : Nat} (v : Byte) {rest : Memory}
    (h : Memory.wfFrom size (a + 1) rest = true) : Memory.read (Memory.consCell a v rest) a = v := by
  unfold Memory.consCell
  split
  · next hv => rw [hv]; exact Memory.read_below (by omega) h
  · simp [Memory.read_cons]

theorem Memory.read_consCell_other {a b : Nat} (h : b ≠ a) (v : Byte) (rest : Memory) :
    Memory.read (Memory.consCell a v rest) b = Memory.read rest b := by
  unfold Memory.consCell
  split
  · rfl
  · rw [Memory.read_cons, if_neg (Ne.symm h)]

/-- A write leaves every other address alone. -/
theorem Memory.read_write_other {a b : Nat} (h : b ≠ a) (v : Byte) :
    ∀ m : Memory, Memory.read (Memory.write m a v) b = Memory.read m b
  | [] => Memory.read_consCell_other h v []
  | (k, x) :: rest => by
    unfold Memory.write
    split
    · exact Memory.read_consCell_other h v _
    · split
      · next hk =>
        rw [Memory.read_consCell_other h, Memory.read_cons, if_neg (by omega)]
      · rw [Memory.read_cons, Memory.read_cons, Memory.read_write_other h v rest]

theorem Memory.read_writeFrom_same {size a : Nat} (v : Byte) :
    ∀ {lo : Nat} {m : Memory}, Memory.wfFrom size lo m = true →
      Memory.read (Memory.write m a v) a = v
  | _, [], _ => Memory.read_consCell_same (size := size) v rfl
  | lo, (k, x) :: rest, hm => by
    have hc := Memory.wfFrom_cons.1 hm
    unfold Memory.write
    split
    · next hk =>
      exact Memory.read_consCell_same v (Memory.wfFrom_cons.2 ⟨hk, hc.2⟩)
    · split
      · next hk => subst hk; exact Memory.read_consCell_same v hc.2.2.2
      · next hk =>
        rw [Memory.read_cons, if_neg (by omega)]
        exact Memory.read_writeFrom_same v hc.2.2.2

/-- A read after a write to the same address gives the value written. -/
theorem Memory.read_write_same {size a : Nat} (v : Byte) {m : Memory} (h : Memory.wf size m = true) :
    Memory.read (Memory.write m a v) a = v := Memory.read_writeFrom_same v h

theorem Memory.consCell_wfFrom {size lo a : Nat} (v : Byte) {rest : Memory} (hlo : lo ≤ a) (ha : a < size)
    (h : Memory.wfFrom size (a + 1) rest = true) :
    Memory.wfFrom size lo (Memory.consCell a v rest) = true := by
  unfold Memory.consCell
  split
  · exact Memory.wfFrom_mono (by omega) h
  · next hv => exact Memory.wfFrom_cons.2 ⟨hlo, ha, hv, h⟩

theorem Memory.write_wfFrom {size a : Nat} (v : Byte) (ha : a < size) :
    ∀ {lo : Nat} {m : Memory}, lo ≤ a → Memory.wfFrom size lo m = true →
      Memory.wfFrom size lo (Memory.write m a v) = true
  | _, [], hlo, _ => Memory.consCell_wfFrom v hlo ha rfl
  | lo, (k, x) :: rest, hlo, hm => by
    have hc := Memory.wfFrom_cons.1 hm
    unfold Memory.write
    split
    · next hk => exact Memory.consCell_wfFrom v hlo ha (Memory.wfFrom_cons.2 ⟨hk, hc.2⟩)
    · split
      · next hk => subst hk; exact Memory.consCell_wfFrom v hlo ha hc.2.2.2
      · next hk =>
        exact Memory.wfFrom_cons.2
          ⟨hc.1, hc.2.1, hc.2.2.1, Memory.write_wfFrom v ha (by omega) hc.2.2.2⟩

/-- A write keeps the canonical form. -/
theorem Memory.write_wf {size a : Nat} (v : Byte) {m : Memory} (ha : a < size)
    (h : Memory.wf size m = true) : Memory.wf size (Memory.write m a v) = true :=
  Memory.write_wfFrom v ha (by omega) h

theorem Memory.extFrom {size : Nat} :
    ∀ {lo : Nat} {m m' : Memory}, Memory.wfFrom size lo m = true → Memory.wfFrom size lo m' = true →
      (∀ a, Memory.read m a = Memory.read m' a) → m = m'
  | _, [], [], _, _, _ => rfl
  | _, [], (k, v) :: rest, _, h', he => by
    have hc := Memory.wfFrom_cons.1 h'
    exact absurd (by simpa [Memory.read_cons] using (he k).symm) hc.2.2.1
  | _, (k, v) :: rest, [], h, _, he => by
    have hc := Memory.wfFrom_cons.1 h
    exact absurd (by simpa [Memory.read_cons] using he k) hc.2.2.1
  | lo, (k, v) :: rest, (k', v') :: rest', h, h', he => by
    have hc := Memory.wfFrom_cons.1 h
    have hc' := Memory.wfFrom_cons.1 h'
    have hk : k = k' := by
      rcases Nat.lt_trichotomy k k' with hlt | heq | hlt
      · have e := he k
        rw [Memory.read_cons, if_pos rfl, Memory.read_cons, if_neg (by omega),
          Memory.read_below (by omega) hc'.2.2.2] at e
        exact absurd e hc.2.2.1
      · exact heq
      · have e := he k'
        rw [Memory.read_cons, if_neg (by omega), Memory.read_below (by omega) hc.2.2.2,
          Memory.read_cons, if_pos rfl] at e
        exact absurd e.symm hc'.2.2.1
    subst hk
    have hv : v = v' := by simpa [Memory.read_cons] using he k
    subst hv
    have hr : rest = rest' := Memory.extFrom hc.2.2.2 hc'.2.2.2 (fun a => by
      by_cases ha : k = a
      · subst ha
        rw [Memory.read_below (by omega) hc.2.2.2, Memory.read_below (by omega) hc'.2.2.2]
      · simpa [Memory.read_cons, ha] using he a)
    rw [hr]

/-- Canonical arrays that read alike everywhere are equal data. -/
theorem Memory.ext {size : Nat} {m m' : Memory} (h : Memory.wf size m = true) (h' : Memory.wf size m' = true)
    (he : ∀ a, Memory.read m a = Memory.read m' a) : m = m' := Memory.extFrom h h' he

end Sys2Proof.Machine
end

