-- ==== Sys2Proof/Laws/State.lean ====
section
/-! SUPPORT. One lemma per field per update: what each named operation leaves in each field it does not compute. -/

namespace Sys2Proof.Machine

@[simp] theorem State.writeMem_a (s : State) (x : Word) (v : Byte) : (s.writeMem x v).a = s.a := rfl
@[simp] theorem State.writeMem_b (s : State) (x : Word) (v : Byte) : (s.writeMem x v).b = s.b := rfl
@[simp] theorem State.writeMem_c (s : State) (x : Word) (v : Byte) : (s.writeMem x v).c = s.c := rfl
@[simp] theorem State.writeMem_d (s : State) (x : Word) (v : Byte) : (s.writeMem x v).d = s.d := rfl
@[simp] theorem State.writeMem_e (s : State) (x : Word) (v : Byte) : (s.writeMem x v).e = s.e := rfl
@[simp] theorem State.writeMem_h (s : State) (x : Word) (v : Byte) : (s.writeMem x v).h = s.h := rfl
@[simp] theorem State.writeMem_l (s : State) (x : Word) (v : Byte) : (s.writeMem x v).l = s.l := rfl
@[simp] theorem State.writeMem_sp (s : State) (x : Word) (v : Byte) : (s.writeMem x v).sp = s.sp := rfl
@[simp] theorem State.writeMem_pc (s : State) (x : Word) (v : Byte) : (s.writeMem x v).pc = s.pc := rfl
@[simp] theorem State.writeMem_flags (s : State) (x : Word) (v : Byte) : (s.writeMem x v).flags = s.flags := rfl
@[simp] theorem State.writeMem_halted (s : State) (x : Word) (v : Byte) : (s.writeMem x v).halted = s.halted := rfl
@[simp] theorem State.writeMem_illegal (s : State) (x : Word) (v : Byte) : (s.writeMem x v).illegal = s.illegal := rfl
@[simp] theorem State.writeMem_io (s : State) (x : Word) (v : Byte) : (s.writeMem x v).io = s.io := rfl
@[simp] theorem State.writeMem_nopAlias (s : State) (x : Word) (v : Byte) : (s.writeMem x v).nopAlias = s.nopAlias := rfl

@[simp] theorem State.writePort_a (s : State) (p v : Byte) : (s.writePort p v).a = s.a := rfl
@[simp] theorem State.writePort_b (s : State) (p v : Byte) : (s.writePort p v).b = s.b := rfl
@[simp] theorem State.writePort_c (s : State) (p v : Byte) : (s.writePort p v).c = s.c := rfl
@[simp] theorem State.writePort_d (s : State) (p v : Byte) : (s.writePort p v).d = s.d := rfl
@[simp] theorem State.writePort_e (s : State) (p v : Byte) : (s.writePort p v).e = s.e := rfl
@[simp] theorem State.writePort_h (s : State) (p v : Byte) : (s.writePort p v).h = s.h := rfl
@[simp] theorem State.writePort_l (s : State) (p v : Byte) : (s.writePort p v).l = s.l := rfl
@[simp] theorem State.writePort_sp (s : State) (p v : Byte) : (s.writePort p v).sp = s.sp := rfl
@[simp] theorem State.writePort_pc (s : State) (p v : Byte) : (s.writePort p v).pc = s.pc := rfl
@[simp] theorem State.writePort_flags (s : State) (p v : Byte) : (s.writePort p v).flags = s.flags := rfl
@[simp] theorem State.writePort_halted (s : State) (p v : Byte) : (s.writePort p v).halted = s.halted := rfl
@[simp] theorem State.writePort_illegal (s : State) (p v : Byte) : (s.writePort p v).illegal = s.illegal := rfl
@[simp] theorem State.writePort_mem (s : State) (p v : Byte) : (s.writePort p v).mem = s.mem := rfl
@[simp] theorem State.writePort_nopAlias (s : State) (p v : Byte) : (s.writePort p v).nopAlias = s.nopAlias := rfl

@[simp] theorem State.writeMem16_a (s : State) (x v : Word) : (s.writeMem16 x v).a = s.a := rfl
@[simp] theorem State.writeMem16_b (s : State) (x v : Word) : (s.writeMem16 x v).b = s.b := rfl
@[simp] theorem State.writeMem16_c (s : State) (x v : Word) : (s.writeMem16 x v).c = s.c := rfl
@[simp] theorem State.writeMem16_d (s : State) (x v : Word) : (s.writeMem16 x v).d = s.d := rfl
@[simp] theorem State.writeMem16_e (s : State) (x v : Word) : (s.writeMem16 x v).e = s.e := rfl
@[simp] theorem State.writeMem16_h (s : State) (x v : Word) : (s.writeMem16 x v).h = s.h := rfl
@[simp] theorem State.writeMem16_l (s : State) (x v : Word) : (s.writeMem16 x v).l = s.l := rfl
@[simp] theorem State.writeMem16_sp (s : State) (x v : Word) : (s.writeMem16 x v).sp = s.sp := rfl
@[simp] theorem State.writeMem16_pc (s : State) (x v : Word) : (s.writeMem16 x v).pc = s.pc := rfl
@[simp] theorem State.writeMem16_flags (s : State) (x v : Word) : (s.writeMem16 x v).flags = s.flags := rfl
@[simp] theorem State.writeMem16_halted (s : State) (x v : Word) : (s.writeMem16 x v).halted = s.halted := rfl
@[simp] theorem State.writeMem16_illegal (s : State) (x v : Word) : (s.writeMem16 x v).illegal = s.illegal := rfl
@[simp] theorem State.writeMem16_io (s : State) (x v : Word) : (s.writeMem16 x v).io = s.io := rfl
@[simp] theorem State.writeMem16_nopAlias (s : State) (x v : Word) : (s.writeMem16 x v).nopAlias = s.nopAlias := rfl

@[simp] theorem State.fetch8_a (s : State) : (s.fetch8.2).a = s.a := rfl
@[simp] theorem State.fetch8_b (s : State) : (s.fetch8.2).b = s.b := rfl
@[simp] theorem State.fetch8_c (s : State) : (s.fetch8.2).c = s.c := rfl
@[simp] theorem State.fetch8_d (s : State) : (s.fetch8.2).d = s.d := rfl
@[simp] theorem State.fetch8_e (s : State) : (s.fetch8.2).e = s.e := rfl
@[simp] theorem State.fetch8_h (s : State) : (s.fetch8.2).h = s.h := rfl
@[simp] theorem State.fetch8_l (s : State) : (s.fetch8.2).l = s.l := rfl
@[simp] theorem State.fetch8_sp (s : State) : (s.fetch8.2).sp = s.sp := rfl
@[simp] theorem State.fetch8_flags (s : State) : (s.fetch8.2).flags = s.flags := rfl
@[simp] theorem State.fetch8_halted (s : State) : (s.fetch8.2).halted = s.halted := rfl
@[simp] theorem State.fetch8_illegal (s : State) : (s.fetch8.2).illegal = s.illegal := rfl
@[simp] theorem State.fetch8_mem (s : State) : (s.fetch8.2).mem = s.mem := rfl
@[simp] theorem State.fetch8_io (s : State) : (s.fetch8.2).io = s.io := rfl
@[simp] theorem State.fetch8_nopAlias (s : State) : (s.fetch8.2).nopAlias = s.nopAlias := rfl

@[simp] theorem State.fetch16_a (s : State) : (s.fetch16.2).a = s.a := rfl
@[simp] theorem State.fetch16_b (s : State) : (s.fetch16.2).b = s.b := rfl
@[simp] theorem State.fetch16_c (s : State) : (s.fetch16.2).c = s.c := rfl
@[simp] theorem State.fetch16_d (s : State) : (s.fetch16.2).d = s.d := rfl
@[simp] theorem State.fetch16_e (s : State) : (s.fetch16.2).e = s.e := rfl
@[simp] theorem State.fetch16_h (s : State) : (s.fetch16.2).h = s.h := rfl
@[simp] theorem State.fetch16_l (s : State) : (s.fetch16.2).l = s.l := rfl
@[simp] theorem State.fetch16_sp (s : State) : (s.fetch16.2).sp = s.sp := rfl
@[simp] theorem State.fetch16_flags (s : State) : (s.fetch16.2).flags = s.flags := rfl
@[simp] theorem State.fetch16_halted (s : State) : (s.fetch16.2).halted = s.halted := rfl
@[simp] theorem State.fetch16_illegal (s : State) : (s.fetch16.2).illegal = s.illegal := rfl
@[simp] theorem State.fetch16_mem (s : State) : (s.fetch16.2).mem = s.mem := rfl
@[simp] theorem State.fetch16_io (s : State) : (s.fetch16.2).io = s.io := rfl
@[simp] theorem State.fetch16_nopAlias (s : State) : (s.fetch16.2).nopAlias = s.nopAlias := rfl

@[simp] theorem State.push16_a (s : State) (w : Word) : (s.push16 w).a = s.a := rfl
@[simp] theorem State.push16_b (s : State) (w : Word) : (s.push16 w).b = s.b := rfl
@[simp] theorem State.push16_c (s : State) (w : Word) : (s.push16 w).c = s.c := rfl
@[simp] theorem State.push16_d (s : State) (w : Word) : (s.push16 w).d = s.d := rfl
@[simp] theorem State.push16_e (s : State) (w : Word) : (s.push16 w).e = s.e := rfl
@[simp] theorem State.push16_h (s : State) (w : Word) : (s.push16 w).h = s.h := rfl
@[simp] theorem State.push16_l (s : State) (w : Word) : (s.push16 w).l = s.l := rfl
@[simp] theorem State.push16_pc (s : State) (w : Word) : (s.push16 w).pc = s.pc := rfl
@[simp] theorem State.push16_flags (s : State) (w : Word) : (s.push16 w).flags = s.flags := rfl
@[simp] theorem State.push16_halted (s : State) (w : Word) : (s.push16 w).halted = s.halted := rfl
@[simp] theorem State.push16_illegal (s : State) (w : Word) : (s.push16 w).illegal = s.illegal := rfl
@[simp] theorem State.push16_io (s : State) (w : Word) : (s.push16 w).io = s.io := rfl
@[simp] theorem State.push16_nopAlias (s : State) (w : Word) : (s.push16 w).nopAlias = s.nopAlias := rfl

@[simp] theorem State.pop16_a (s : State) : (s.pop16.2).a = s.a := rfl
@[simp] theorem State.pop16_b (s : State) : (s.pop16.2).b = s.b := rfl
@[simp] theorem State.pop16_c (s : State) : (s.pop16.2).c = s.c := rfl
@[simp] theorem State.pop16_d (s : State) : (s.pop16.2).d = s.d := rfl
@[simp] theorem State.pop16_e (s : State) : (s.pop16.2).e = s.e := rfl
@[simp] theorem State.pop16_h (s : State) : (s.pop16.2).h = s.h := rfl
@[simp] theorem State.pop16_l (s : State) : (s.pop16.2).l = s.l := rfl
@[simp] theorem State.pop16_pc (s : State) : (s.pop16.2).pc = s.pc := rfl
@[simp] theorem State.pop16_flags (s : State) : (s.pop16.2).flags = s.flags := rfl
@[simp] theorem State.pop16_halted (s : State) : (s.pop16.2).halted = s.halted := rfl
@[simp] theorem State.pop16_illegal (s : State) : (s.pop16.2).illegal = s.illegal := rfl
@[simp] theorem State.pop16_mem (s : State) : (s.pop16.2).mem = s.mem := rfl
@[simp] theorem State.pop16_io (s : State) : (s.pop16.2).io = s.io := rfl
@[simp] theorem State.pop16_nopAlias (s : State) : (s.pop16.2).nopAlias = s.nopAlias := rfl

@[simp] theorem State.jump_a (s : State) (t : Word) : (s.jump t).a = s.a := rfl
@[simp] theorem State.jump_b (s : State) (t : Word) : (s.jump t).b = s.b := rfl
@[simp] theorem State.jump_c (s : State) (t : Word) : (s.jump t).c = s.c := rfl
@[simp] theorem State.jump_d (s : State) (t : Word) : (s.jump t).d = s.d := rfl
@[simp] theorem State.jump_e (s : State) (t : Word) : (s.jump t).e = s.e := rfl
@[simp] theorem State.jump_h (s : State) (t : Word) : (s.jump t).h = s.h := rfl
@[simp] theorem State.jump_l (s : State) (t : Word) : (s.jump t).l = s.l := rfl
@[simp] theorem State.jump_sp (s : State) (t : Word) : (s.jump t).sp = s.sp := rfl
@[simp] theorem State.jump_flags (s : State) (t : Word) : (s.jump t).flags = s.flags := rfl
@[simp] theorem State.jump_halted (s : State) (t : Word) : (s.jump t).halted = s.halted := rfl
@[simp] theorem State.jump_illegal (s : State) (t : Word) : (s.jump t).illegal = s.illegal := rfl
@[simp] theorem State.jump_mem (s : State) (t : Word) : (s.jump t).mem = s.mem := rfl
@[simp] theorem State.jump_io (s : State) (t : Word) : (s.jump t).io = s.io := rfl
@[simp] theorem State.jump_nopAlias (s : State) (t : Word) : (s.jump t).nopAlias = s.nopAlias := rfl

@[simp] theorem State.call_a (s : State) (t : Word) : (s.call t).a = s.a := rfl
@[simp] theorem State.call_b (s : State) (t : Word) : (s.call t).b = s.b := rfl
@[simp] theorem State.call_c (s : State) (t : Word) : (s.call t).c = s.c := rfl
@[simp] theorem State.call_d (s : State) (t : Word) : (s.call t).d = s.d := rfl
@[simp] theorem State.call_e (s : State) (t : Word) : (s.call t).e = s.e := rfl
@[simp] theorem State.call_h (s : State) (t : Word) : (s.call t).h = s.h := rfl
@[simp] theorem State.call_l (s : State) (t : Word) : (s.call t).l = s.l := rfl
@[simp] theorem State.call_flags (s : State) (t : Word) : (s.call t).flags = s.flags := rfl
@[simp] theorem State.call_halted (s : State) (t : Word) : (s.call t).halted = s.halted := rfl
@[simp] theorem State.call_illegal (s : State) (t : Word) : (s.call t).illegal = s.illegal := rfl
@[simp] theorem State.call_io (s : State) (t : Word) : (s.call t).io = s.io := rfl
@[simp] theorem State.call_nopAlias (s : State) (t : Word) : (s.call t).nopAlias = s.nopAlias := rfl

@[simp] theorem State.ret_a (s : State) : (s.ret).a = s.a := rfl
@[simp] theorem State.ret_b (s : State) : (s.ret).b = s.b := rfl
@[simp] theorem State.ret_c (s : State) : (s.ret).c = s.c := rfl
@[simp] theorem State.ret_d (s : State) : (s.ret).d = s.d := rfl
@[simp] theorem State.ret_e (s : State) : (s.ret).e = s.e := rfl
@[simp] theorem State.ret_h (s : State) : (s.ret).h = s.h := rfl
@[simp] theorem State.ret_l (s : State) : (s.ret).l = s.l := rfl
@[simp] theorem State.ret_flags (s : State) : (s.ret).flags = s.flags := rfl
@[simp] theorem State.ret_halted (s : State) : (s.ret).halted = s.halted := rfl
@[simp] theorem State.ret_illegal (s : State) : (s.ret).illegal = s.illegal := rfl
@[simp] theorem State.ret_mem (s : State) : (s.ret).mem = s.mem := rfl
@[simp] theorem State.ret_io (s : State) : (s.ret).io = s.io := rfl
@[simp] theorem State.ret_nopAlias (s : State) : (s.ret).nopAlias = s.nopAlias := rfl

@[simp] theorem State.raiseIllegalOpcode_a (s : State) : (s.raiseIllegalOpcode).a = s.a := rfl
@[simp] theorem State.raiseIllegalOpcode_b (s : State) : (s.raiseIllegalOpcode).b = s.b := rfl
@[simp] theorem State.raiseIllegalOpcode_c (s : State) : (s.raiseIllegalOpcode).c = s.c := rfl
@[simp] theorem State.raiseIllegalOpcode_d (s : State) : (s.raiseIllegalOpcode).d = s.d := rfl
@[simp] theorem State.raiseIllegalOpcode_e (s : State) : (s.raiseIllegalOpcode).e = s.e := rfl
@[simp] theorem State.raiseIllegalOpcode_h (s : State) : (s.raiseIllegalOpcode).h = s.h := rfl
@[simp] theorem State.raiseIllegalOpcode_l (s : State) : (s.raiseIllegalOpcode).l = s.l := rfl
@[simp] theorem State.raiseIllegalOpcode_sp (s : State) : (s.raiseIllegalOpcode).sp = s.sp := rfl
@[simp] theorem State.raiseIllegalOpcode_pc (s : State) : (s.raiseIllegalOpcode).pc = s.pc := rfl
@[simp] theorem State.raiseIllegalOpcode_flags (s : State) : (s.raiseIllegalOpcode).flags = s.flags := rfl
@[simp] theorem State.raiseIllegalOpcode_mem (s : State) : (s.raiseIllegalOpcode).mem = s.mem := rfl
@[simp] theorem State.raiseIllegalOpcode_io (s : State) : (s.raiseIllegalOpcode).io = s.io := rfl
@[simp] theorem State.raiseIllegalOpcode_nopAlias (s : State) : (s.raiseIllegalOpcode).nopAlias = s.nopAlias := rfl

@[simp] theorem State.unassigned_a (s : State) (u : Config.Unassigned) : (s.unassigned u).a = s.a := by
  unfold State.unassigned; split <;> rfl
@[simp] theorem State.unassigned_b (s : State) (u : Config.Unassigned) : (s.unassigned u).b = s.b := by
  unfold State.unassigned; split <;> rfl
@[simp] theorem State.unassigned_c (s : State) (u : Config.Unassigned) : (s.unassigned u).c = s.c := by
  unfold State.unassigned; split <;> rfl
@[simp] theorem State.unassigned_d (s : State) (u : Config.Unassigned) : (s.unassigned u).d = s.d := by
  unfold State.unassigned; split <;> rfl
@[simp] theorem State.unassigned_e (s : State) (u : Config.Unassigned) : (s.unassigned u).e = s.e := by
  unfold State.unassigned; split <;> rfl
@[simp] theorem State.unassigned_h (s : State) (u : Config.Unassigned) : (s.unassigned u).h = s.h := by
  unfold State.unassigned; split <;> rfl
@[simp] theorem State.unassigned_l (s : State) (u : Config.Unassigned) : (s.unassigned u).l = s.l := by
  unfold State.unassigned; split <;> rfl
@[simp] theorem State.unassigned_sp (s : State) (u : Config.Unassigned) : (s.unassigned u).sp = s.sp := by
  unfold State.unassigned; split <;> rfl
@[simp] theorem State.unassigned_pc (s : State) (u : Config.Unassigned) : (s.unassigned u).pc = s.pc := by
  unfold State.unassigned; split <;> rfl
@[simp] theorem State.unassigned_flags (s : State) (u : Config.Unassigned) : (s.unassigned u).flags = s.flags := by
  unfold State.unassigned; split <;> rfl
@[simp] theorem State.unassigned_mem (s : State) (u : Config.Unassigned) : (s.unassigned u).mem = s.mem := by
  unfold State.unassigned; split <;> rfl
@[simp] theorem State.unassigned_io (s : State) (u : Config.Unassigned) : (s.unassigned u).io = s.io := by
  unfold State.unassigned; split <;> rfl
@[simp] theorem State.unassigned_nopAlias (s : State) (u : Config.Unassigned) : (s.unassigned u).nopAlias = s.nopAlias := by
  unfold State.unassigned; split <;> rfl

@[simp] theorem State.setReg_sp (s : State) (r : Reg8) (v : Byte) : (s.setReg r v).sp = s.sp := by
  cases r <;> rfl
@[simp] theorem State.setReg_pc (s : State) (r : Reg8) (v : Byte) : (s.setReg r v).pc = s.pc := by
  cases r <;> rfl
@[simp] theorem State.setReg_flags (s : State) (r : Reg8) (v : Byte) : (s.setReg r v).flags = s.flags := by
  cases r <;> rfl
@[simp] theorem State.setReg_halted (s : State) (r : Reg8) (v : Byte) : (s.setReg r v).halted = s.halted := by
  cases r <;> rfl
@[simp] theorem State.setReg_illegal (s : State) (r : Reg8) (v : Byte) : (s.setReg r v).illegal = s.illegal := by
  cases r <;> rfl
@[simp] theorem State.setReg_mem (s : State) (r : Reg8) (v : Byte) : (s.setReg r v).mem = s.mem := by
  cases r <;> rfl
@[simp] theorem State.setReg_io (s : State) (r : Reg8) (v : Byte) : (s.setReg r v).io = s.io := by
  cases r <;> rfl
@[simp] theorem State.setReg_nopAlias (s : State) (r : Reg8) (v : Byte) : (s.setReg r v).nopAlias = s.nopAlias := by
  cases r <;> rfl

@[simp] theorem State.setPair_pc (s : State) (p : Pair) (v : Word) : (s.setPair p v).pc = s.pc := by
  cases p <;> rfl
@[simp] theorem State.setPair_a (s : State) (p : Pair) (v : Word) : (s.setPair p v).a = s.a := by
  cases p <;> rfl
@[simp] theorem State.setPair_flags (s : State) (p : Pair) (v : Word) : (s.setPair p v).flags = s.flags := by
  cases p <;> rfl
@[simp] theorem State.setPair_halted (s : State) (p : Pair) (v : Word) : (s.setPair p v).halted = s.halted := by
  cases p <;> rfl
@[simp] theorem State.setPair_illegal (s : State) (p : Pair) (v : Word) : (s.setPair p v).illegal = s.illegal := by
  cases p <;> rfl
@[simp] theorem State.setPair_mem (s : State) (p : Pair) (v : Word) : (s.setPair p v).mem = s.mem := by
  cases p <;> rfl
@[simp] theorem State.setPair_io (s : State) (p : Pair) (v : Word) : (s.setPair p v).io = s.io := by
  cases p <;> rfl
@[simp] theorem State.setPair_nopAlias (s : State) (p : Pair) (v : Word) : (s.setPair p v).nopAlias = s.nopAlias := by
  cases p <;> rfl

@[simp] theorem State.wr8_sp (s : State) (x : Opnd8) (v : Byte) : (s.wr8 x v).sp = s.sp := by
  cases x <;> simp [State.wr8]
@[simp] theorem State.wr8_pc (s : State) (x : Opnd8) (v : Byte) : (s.wr8 x v).pc = s.pc := by
  cases x <;> simp [State.wr8]
@[simp] theorem State.wr8_flags (s : State) (x : Opnd8) (v : Byte) : (s.wr8 x v).flags = s.flags := by
  cases x <;> simp [State.wr8]
@[simp] theorem State.wr8_halted (s : State) (x : Opnd8) (v : Byte) : (s.wr8 x v).halted = s.halted := by
  cases x <;> simp [State.wr8]
@[simp] theorem State.wr8_illegal (s : State) (x : Opnd8) (v : Byte) : (s.wr8 x v).illegal = s.illegal := by
  cases x <;> simp [State.wr8]
@[simp] theorem State.wr8_io (s : State) (x : Opnd8) (v : Byte) : (s.wr8 x v).io = s.io := by
  cases x <;> simp [State.wr8]
@[simp] theorem State.wr8_nopAlias (s : State) (x : Opnd8) (v : Byte) : (s.wr8 x v).nopAlias = s.nopAlias := by
  cases x <;> simp [State.wr8]

@[simp] theorem State.jump_pc (s : State) (t : Word) : (s.jump t).pc = t := rfl
@[simp] theorem State.call_pc (s : State) (t : Word) : (s.call t).pc = t := rfl
@[simp] theorem State.ret_pc (s : State) : s.ret.pc = s.pop16.1 := rfl
@[simp] theorem State.fetch8_pc (s : State) : s.fetch8.2.pc = s.pc + 1 := rfl
@[simp] theorem State.raiseIllegalOpcode_halted (s : State) : s.raiseIllegalOpcode.halted = true := rfl
@[simp] theorem State.raiseIllegalOpcode_illegal (s : State) : s.raiseIllegalOpcode.illegal = true := rfl
@[simp] theorem State.push16_sp (s : State) (w : Word) : (s.push16 w).sp = s.sp - 1 - 1 := rfl
@[simp] theorem State.pop16_sp (s : State) : s.pop16.2.sp = s.sp + 1 + 1 := rfl
@[simp] theorem State.writeMem_mem (s : State) (x : Word) (v : Byte) :
    (s.writeMem x v).mem = Memory.write s.mem x.toNat v := rfl
@[simp] theorem State.writePort_io (s : State) (p v : Byte) :
    (s.writePort p v).io = Memory.write s.io p.toNat v := rfl

@[simp] theorem State.reg_setReg_same (s : State) (r : Reg8) (v : Byte) : (s.setReg r v).reg r = v := by
  cases r <;> rfl

theorem State.reg_setReg_other (s : State) {r r' : Reg8} (h : r' ≠ r) (v : Byte) :
    (s.setReg r v).reg r' = s.reg r' := by
  cases r <;> cases r' <;> first | rfl | exact absurd rfl h

@[simp] theorem State.setReg_reg_self (s : State) (r : Reg8) : s.setReg r (s.reg r) = s := by
  cases r <;> rfl

@[simp] theorem State.reg_setPair_sp (s : State) (r : Reg8) (v : Word) : (s.setPair .sp v).reg r = s.reg r := by
  cases r <;> rfl

end Sys2Proof.Machine
end

