-- ==== Sys2Proof/Laws/Ops.lean ====
section
/-! SUPPORT. What each shared operation can do, once: one byte of memory or one port read after a write, the stack
operations written out, what each operation keeps of the invariant, and what a fetch leaves. -/

namespace Sys2Proof.Machine

/-! ## One byte of memory, one port -/

theorem State.readMem_writeMem_other (s : State) {x y : Word} (h : y ≠ x) (v : Byte) :
    (s.writeMem x v).readMem y = s.readMem y :=
  Memory.read_write_other (fun e => h (BitVec.eq_of_toNat_eq e)) v s.mem

theorem State.readPort_writePort_other (s : State) {p q : Byte} (h : q ≠ p) (v : Byte) :
    (s.writePort p v).readPort q = s.readPort q :=
  Memory.read_write_other (fun e => h (BitVec.eq_of_toNat_eq e)) v s.io

@[simp] theorem State.readMem_writePort (s : State) (x : Word) (p v : Byte) :
    (s.writePort p v).readMem x = s.readMem x := rfl

@[simp] theorem State.readPort_writeMem (s : State) (x : Word) (p v : Byte) :
    (s.writeMem x v).readPort p = s.readPort p := rfl

/-- An address is never its own successor (R55). -/
theorem word_succ_ne (x : Word) : x + 1 ≠ x := by bv_omega

/-- Pushing moves SP by two addresses, never by a multiple of 65536. -/
theorem word_sub_one_ne_sub_two (x : Word) : x - 1 ≠ x - 2 := by bv_omega

theorem word_sub_one_sub_one (x : Word) : x - 1 - 1 = x - 2 := by bv_omega

theorem word_add_one_add_one (x : Word) : x + 1 + 1 = x + 2 := by bv_omega

/-! ## The stack -/

/-- A push as two byte writes below SP (R98). -/
theorem State.push16_eq (s : State) (w : Word) :
    s.push16 w = { (s.writeMem (s.sp - 1) (hi8 w)).writeMem (s.sp - 2) (lo8 w) with sp := s.sp - 2 } := by
  rw [← word_sub_one_sub_one]; rfl

/-- A pop as two byte reads at SP (R99). -/
theorem State.pop16_eq (s : State) :
    s.pop16 = (cat (s.readMem (s.sp + 1)) (s.readMem s.sp), { s with sp := s.sp + 2 }) := by
  rw [← word_add_one_add_one]; rfl

theorem State.readMem_push16_other (s : State) {y : Word} (w : Word) (h1 : y ≠ s.sp - 1) (h2 : y ≠ s.sp - 2) :
    (s.push16 w).readMem y = s.readMem y := by
  rw [State.push16_eq]
  exact (State.readMem_writeMem_other _ h2 _).trans (State.readMem_writeMem_other _ h1 _)

theorem State.readMem_writeMem16_other (s : State) {x y : Word} (w : Word) (h1 : y ≠ x) (h2 : y ≠ x + 1) :
    (s.writeMem16 x w).readMem y = s.readMem y :=
  (State.readMem_writeMem_other _ h2 _).trans (State.readMem_writeMem_other _ h1 _)

/-- A call as a push of PC and a jump (R192). -/
theorem State.call_eq (s : State) (t : Word) : s.call t = { s.push16 s.pc with pc := t } := rfl

/-- A return as two byte reads at SP (R194). -/
theorem State.ret_eq (s : State) :
    s.ret = { s with pc := cat (s.readMem (s.sp + 1)) (s.readMem s.sp), sp := s.sp + 2 } := by
  rw [← word_add_one_add_one]; rfl

/-! ## The invariant -/

/-- What changes neither array nor status bit keeps the invariant. -/
theorem State.Inv.of_eq {s t : State} (h : s.Inv) (hm : t.mem = s.mem) (hi : t.io = s.io)
    (hh : t.halted = s.halted) (hl : t.illegal = s.illegal) : t.Inv :=
  ⟨hm ▸ h.mem_wf, hi ▸ h.io_wf, by rw [hh, hl]; exact h.illegal_halted⟩

theorem State.Inv.writeMem {s : State} (h : s.Inv) (x : Word) (v : Byte) : (s.writeMem x v).Inv :=
  ⟨Memory.write_wf v x.isLt h.mem_wf, h.io_wf, h.illegal_halted⟩

theorem State.Inv.writePort {s : State} (h : s.Inv) (p v : Byte) : (s.writePort p v).Inv :=
  ⟨h.mem_wf, Memory.write_wf v p.isLt h.io_wf, h.illegal_halted⟩

theorem State.Inv.writeMem16 {s : State} (h : s.Inv) (x w : Word) : (s.writeMem16 x w).Inv :=
  (h.writeMem _ _).writeMem _ _

theorem State.Inv.push16 {s : State} (h : s.Inv) (w : Word) : (s.push16 w).Inv :=
  (((h.writeMem (s.sp - 1) (hi8 w)).writeMem (s.sp - 1 - 1) (lo8 w))).of_eq rfl rfl rfl rfl

theorem State.Inv.call {s : State} (h : s.Inv) (t : Word) : (s.call t).Inv := (h.push16 s.pc).of_eq rfl rfl rfl rfl

theorem State.Inv.ret {s : State} (h : s.Inv) : s.ret.Inv := h.of_eq rfl rfl rfl rfl

theorem State.Inv.setReg {s : State} (h : s.Inv) (r : Reg8) (v : Byte) : (s.setReg r v).Inv :=
  h.of_eq (by simp) (by simp) (by simp) (by simp)

theorem State.Inv.setPair {s : State} (h : s.Inv) (p : Pair) (v : Word) : (s.setPair p v).Inv :=
  h.of_eq (by simp) (by simp) (by simp) (by simp)

theorem State.Inv.wr8 {s : State} (h : s.Inv) (x : Opnd8) (v : Byte) : (s.wr8 x v).Inv := by
  cases x with
  | reg r => exact h.setReg r v
  | m => exact h.writeMem _ v

theorem State.Inv.raiseIllegalOpcode {s : State} (h : s.Inv) : s.raiseIllegalOpcode.Inv :=
  ⟨h.mem_wf, h.io_wf, fun _ => rfl⟩

theorem State.Inv.unassigned {s : State} (h : s.Inv) (u : Config.Unassigned) : (s.unassigned u).Inv := by
  unfold State.unassigned
  split
  · exact h
  · exact h.raiseIllegalOpcode

/-! ## Fetch and step -/

/-- A fetch moves PC past the whole instruction and does nothing else. -/
theorem State.fetchInstr_state (s : State) : s.fetchInstr.2 = { s with pc := s.fetchInstr.2.pc } := by
  unfold State.fetchInstr
  dsimp only
  generalize opcodeMap _ = e
  cases e <;> rfl

theorem State.Inv.fetchInstr {s : State} (h : s.Inv) : s.fetchInstr.2.Inv := by
  rw [State.fetchInstr_state]; exact h.of_eq rfl rfl rfl rfl

/-- A step of a running core fetches and executes. -/
theorem step_running {s : State} (h : s.halted = false) : step s = exec s.fetchInstr.1 s.fetchInstr.2 := by
  simp [step, h]

/-! ## Flags -/

@[simp] theorem szp_ac (v : Byte) (f : Flags) : (szp v f).ac = f.ac := rfl
@[simp] theorem szp_cy (v : Byte) (f : Flags) : (szp v f).cy = f.cy := rfl
@[simp] theorem logic8_ac (v : Byte) (f : Flags) : (logic8 v f).ac = false := rfl
@[simp] theorem logic8_cy (v : Byte) (f : Flags) : (logic8 v f).cy = false := rfl
@[simp] theorem add8_fst (a b : Byte) (k : Bool) (f : Flags) :
    (add8 a b k f).1 = BitVec.ofNat 8 (a.toNat + b.toNat + k.toNat) := rfl
@[simp] theorem sub8_fst (a b : Byte) (k : Bool) (f : Flags) :
    (sub8 a b k f).1 = trunc8 ((a.toNat : Int) - (b.toNat : Int) - (k.toNat : Int)) := rfl

/-- Sign is the upper half of the byte's range. -/
theorem signOf_iff (v : Byte) : signOf v = true ↔ 128 ≤ v.toNat := by
  have := v.isLt
  simp only [signOf, BitVec.getLsbD, Nat.testBit, Nat.shiftRight_eq_div_pow]
  simp
  omega

theorem zeroOf_iff (v : Byte) : zeroOf v = true ↔ v.toNat = 0 := by
  simp [zeroOf, ← BitVec.toNat_inj]

end Sys2Proof.Machine
end

