-- ==== Sys2Proof/Laws/PerInstr.lean ====
section
/-! SUPPORT. Per instruction: its encoding is a well-formed byte string, of the length its opcode asks for (R70, R73). -/

namespace Sys2Proof.Laws

/-- The encoding of an instruction is exactly one instruction by the length rule of its opcode. -/
def EncodingForm.Statement (i : Instr) : Prop := wellFormedBytes (encode i) = true

theorem EncodingForm.nop : EncodingForm.Statement .nop := rfl
theorem EncodingForm.lxiB (d16 : Word) : EncodingForm.Statement (.lxiB d16) := rfl
theorem EncodingForm.staxB : EncodingForm.Statement .staxB := rfl
theorem EncodingForm.inxB : EncodingForm.Statement .inxB := rfl
theorem EncodingForm.inrB : EncodingForm.Statement .inrB := rfl
theorem EncodingForm.dcrB : EncodingForm.Statement .dcrB := rfl
theorem EncodingForm.mviB (d8 : Byte) : EncodingForm.Statement (.mviB d8) := rfl
theorem EncodingForm.rlc : EncodingForm.Statement .rlc := rfl
theorem EncodingForm.nopAlias08 : EncodingForm.Statement .nopAlias08 := rfl
theorem EncodingForm.dadB : EncodingForm.Statement .dadB := rfl
theorem EncodingForm.ldaxB : EncodingForm.Statement .ldaxB := rfl
theorem EncodingForm.dcxB : EncodingForm.Statement .dcxB := rfl
theorem EncodingForm.inrC : EncodingForm.Statement .inrC := rfl
theorem EncodingForm.dcrC : EncodingForm.Statement .dcrC := rfl
theorem EncodingForm.mviC (d8 : Byte) : EncodingForm.Statement (.mviC d8) := rfl
theorem EncodingForm.rrc : EncodingForm.Statement .rrc := rfl
theorem EncodingForm.nopAlias10 : EncodingForm.Statement .nopAlias10 := rfl
theorem EncodingForm.lxiD (d16 : Word) : EncodingForm.Statement (.lxiD d16) := rfl
theorem EncodingForm.staxD : EncodingForm.Statement .staxD := rfl
theorem EncodingForm.inxD : EncodingForm.Statement .inxD := rfl
theorem EncodingForm.inrD : EncodingForm.Statement .inrD := rfl
theorem EncodingForm.dcrD : EncodingForm.Statement .dcrD := rfl
theorem EncodingForm.mviD (d8 : Byte) : EncodingForm.Statement (.mviD d8) := rfl
theorem EncodingForm.ral : EncodingForm.Statement .ral := rfl
theorem EncodingForm.nopAlias18 : EncodingForm.Statement .nopAlias18 := rfl
theorem EncodingForm.dadD : EncodingForm.Statement .dadD := rfl
theorem EncodingForm.ldaxD : EncodingForm.Statement .ldaxD := rfl
theorem EncodingForm.dcxD : EncodingForm.Statement .dcxD := rfl
theorem EncodingForm.inrE : EncodingForm.Statement .inrE := rfl
theorem EncodingForm.dcrE : EncodingForm.Statement .dcrE := rfl
theorem EncodingForm.mviE (d8 : Byte) : EncodingForm.Statement (.mviE d8) := rfl
theorem EncodingForm.rar : EncodingForm.Statement .rar := rfl
theorem EncodingForm.rim : EncodingForm.Statement .rim := rfl
theorem EncodingForm.lxiH (d16 : Word) : EncodingForm.Statement (.lxiH d16) := rfl
theorem EncodingForm.shld (a16 : Word) : EncodingForm.Statement (.shld a16) := rfl
theorem EncodingForm.inxH : EncodingForm.Statement .inxH := rfl
theorem EncodingForm.inrH : EncodingForm.Statement .inrH := rfl
theorem EncodingForm.dcrH : EncodingForm.Statement .dcrH := rfl
theorem EncodingForm.mviH (d8 : Byte) : EncodingForm.Statement (.mviH d8) := rfl
theorem EncodingForm.daa : EncodingForm.Statement .daa := rfl
theorem EncodingForm.nopAlias28 : EncodingForm.Statement .nopAlias28 := rfl
theorem EncodingForm.dadH : EncodingForm.Statement .dadH := rfl
theorem EncodingForm.lhld (a16 : Word) : EncodingForm.Statement (.lhld a16) := rfl
theorem EncodingForm.dcxH : EncodingForm.Statement .dcxH := rfl
theorem EncodingForm.inrL : EncodingForm.Statement .inrL := rfl
theorem EncodingForm.dcrL : EncodingForm.Statement .dcrL := rfl
theorem EncodingForm.mviL (d8 : Byte) : EncodingForm.Statement (.mviL d8) := rfl
theorem EncodingForm.cma : EncodingForm.Statement .cma := rfl
theorem EncodingForm.sim : EncodingForm.Statement .sim := rfl
theorem EncodingForm.lxiSP (d16 : Word) : EncodingForm.Statement (.lxiSP d16) := rfl
theorem EncodingForm.sta (a16 : Word) : EncodingForm.Statement (.sta a16) := rfl
theorem EncodingForm.inxSP : EncodingForm.Statement .inxSP := rfl
theorem EncodingForm.inrM : EncodingForm.Statement .inrM := rfl
theorem EncodingForm.dcrM : EncodingForm.Statement .dcrM := rfl
theorem EncodingForm.mviM (d8 : Byte) : EncodingForm.Statement (.mviM d8) := rfl
theorem EncodingForm.stc : EncodingForm.Statement .stc := rfl
theorem EncodingForm.nopAlias38 : EncodingForm.Statement .nopAlias38 := rfl
theorem EncodingForm.dadSP : EncodingForm.Statement .dadSP := rfl
theorem EncodingForm.lda (a16 : Word) : EncodingForm.Statement (.lda a16) := rfl
theorem EncodingForm.dcxSP : EncodingForm.Statement .dcxSP := rfl
theorem EncodingForm.inrA : EncodingForm.Statement .inrA := rfl
theorem EncodingForm.dcrA : EncodingForm.Statement .dcrA := rfl
theorem EncodingForm.mviA (d8 : Byte) : EncodingForm.Statement (.mviA d8) := rfl
theorem EncodingForm.cmc : EncodingForm.Statement .cmc := rfl
theorem EncodingForm.movBB : EncodingForm.Statement .movBB := rfl
theorem EncodingForm.movBC : EncodingForm.Statement .movBC := rfl
theorem EncodingForm.movBD : EncodingForm.Statement .movBD := rfl
theorem EncodingForm.movBE : EncodingForm.Statement .movBE := rfl
theorem EncodingForm.movBH : EncodingForm.Statement .movBH := rfl
theorem EncodingForm.movBL : EncodingForm.Statement .movBL := rfl
theorem EncodingForm.movBM : EncodingForm.Statement .movBM := rfl
theorem EncodingForm.movBA : EncodingForm.Statement .movBA := rfl
theorem EncodingForm.movCB : EncodingForm.Statement .movCB := rfl
theorem EncodingForm.movCC : EncodingForm.Statement .movCC := rfl
theorem EncodingForm.movCD : EncodingForm.Statement .movCD := rfl
theorem EncodingForm.movCE : EncodingForm.Statement .movCE := rfl
theorem EncodingForm.movCH : EncodingForm.Statement .movCH := rfl
theorem EncodingForm.movCL : EncodingForm.Statement .movCL := rfl
theorem EncodingForm.movCM : EncodingForm.Statement .movCM := rfl
theorem EncodingForm.movCA : EncodingForm.Statement .movCA := rfl
theorem EncodingForm.movDB : EncodingForm.Statement .movDB := rfl
theorem EncodingForm.movDC : EncodingForm.Statement .movDC := rfl
theorem EncodingForm.movDD : EncodingForm.Statement .movDD := rfl
theorem EncodingForm.movDE : EncodingForm.Statement .movDE := rfl
theorem EncodingForm.movDH : EncodingForm.Statement .movDH := rfl
theorem EncodingForm.movDL : EncodingForm.Statement .movDL := rfl
theorem EncodingForm.movDM : EncodingForm.Statement .movDM := rfl
theorem EncodingForm.movDA : EncodingForm.Statement .movDA := rfl
theorem EncodingForm.movEB : EncodingForm.Statement .movEB := rfl
theorem EncodingForm.movEC : EncodingForm.Statement .movEC := rfl
theorem EncodingForm.movED : EncodingForm.Statement .movED := rfl
theorem EncodingForm.movEE : EncodingForm.Statement .movEE := rfl
theorem EncodingForm.movEH : EncodingForm.Statement .movEH := rfl
theorem EncodingForm.movEL : EncodingForm.Statement .movEL := rfl
theorem EncodingForm.movEM : EncodingForm.Statement .movEM := rfl
theorem EncodingForm.movEA : EncodingForm.Statement .movEA := rfl
theorem EncodingForm.movHB : EncodingForm.Statement .movHB := rfl
theorem EncodingForm.movHC : EncodingForm.Statement .movHC := rfl
theorem EncodingForm.movHD : EncodingForm.Statement .movHD := rfl
theorem EncodingForm.movHE : EncodingForm.Statement .movHE := rfl
theorem EncodingForm.movHH : EncodingForm.Statement .movHH := rfl
theorem EncodingForm.movHL : EncodingForm.Statement .movHL := rfl
theorem EncodingForm.movHM : EncodingForm.Statement .movHM := rfl
theorem EncodingForm.movHA : EncodingForm.Statement .movHA := rfl
theorem EncodingForm.movLB : EncodingForm.Statement .movLB := rfl
theorem EncodingForm.movLC : EncodingForm.Statement .movLC := rfl
theorem EncodingForm.movLD : EncodingForm.Statement .movLD := rfl
theorem EncodingForm.movLE : EncodingForm.Statement .movLE := rfl
theorem EncodingForm.movLH : EncodingForm.Statement .movLH := rfl
theorem EncodingForm.movLL : EncodingForm.Statement .movLL := rfl
theorem EncodingForm.movLM : EncodingForm.Statement .movLM := rfl
theorem EncodingForm.movLA : EncodingForm.Statement .movLA := rfl
theorem EncodingForm.movMB : EncodingForm.Statement .movMB := rfl
theorem EncodingForm.movMC : EncodingForm.Statement .movMC := rfl
theorem EncodingForm.movMD : EncodingForm.Statement .movMD := rfl
theorem EncodingForm.movME : EncodingForm.Statement .movME := rfl
theorem EncodingForm.movMH : EncodingForm.Statement .movMH := rfl
theorem EncodingForm.movML : EncodingForm.Statement .movML := rfl
theorem EncodingForm.hlt : EncodingForm.Statement .hlt := rfl
theorem EncodingForm.movMA : EncodingForm.Statement .movMA := rfl
theorem EncodingForm.movAB : EncodingForm.Statement .movAB := rfl
theorem EncodingForm.movAC : EncodingForm.Statement .movAC := rfl
theorem EncodingForm.movAD : EncodingForm.Statement .movAD := rfl
theorem EncodingForm.movAE : EncodingForm.Statement .movAE := rfl
theorem EncodingForm.movAH : EncodingForm.Statement .movAH := rfl
theorem EncodingForm.movAL : EncodingForm.Statement .movAL := rfl
theorem EncodingForm.movAM : EncodingForm.Statement .movAM := rfl
theorem EncodingForm.movAA : EncodingForm.Statement .movAA := rfl
theorem EncodingForm.addB : EncodingForm.Statement .addB := rfl
theorem EncodingForm.addC : EncodingForm.Statement .addC := rfl
theorem EncodingForm.addD : EncodingForm.Statement .addD := rfl
theorem EncodingForm.addE : EncodingForm.Statement .addE := rfl
theorem EncodingForm.addH : EncodingForm.Statement .addH := rfl
theorem EncodingForm.addL : EncodingForm.Statement .addL := rfl
theorem EncodingForm.addM : EncodingForm.Statement .addM := rfl
theorem EncodingForm.addA : EncodingForm.Statement .addA := rfl
theorem EncodingForm.adcB : EncodingForm.Statement .adcB := rfl
theorem EncodingForm.adcC : EncodingForm.Statement .adcC := rfl
theorem EncodingForm.adcD : EncodingForm.Statement .adcD := rfl
theorem EncodingForm.adcE : EncodingForm.Statement .adcE := rfl
theorem EncodingForm.adcH : EncodingForm.Statement .adcH := rfl
theorem EncodingForm.adcL : EncodingForm.Statement .adcL := rfl
theorem EncodingForm.adcM : EncodingForm.Statement .adcM := rfl
theorem EncodingForm.adcA : EncodingForm.Statement .adcA := rfl
theorem EncodingForm.subB : EncodingForm.Statement .subB := rfl
theorem EncodingForm.subC : EncodingForm.Statement .subC := rfl
theorem EncodingForm.subD : EncodingForm.Statement .subD := rfl
theorem EncodingForm.subE : EncodingForm.Statement .subE := rfl
theorem EncodingForm.subH : EncodingForm.Statement .subH := rfl
theorem EncodingForm.subL : EncodingForm.Statement .subL := rfl
theorem EncodingForm.subM : EncodingForm.Statement .subM := rfl
theorem EncodingForm.subA : EncodingForm.Statement .subA := rfl
theorem EncodingForm.sbbB : EncodingForm.Statement .sbbB := rfl
theorem EncodingForm.sbbC : EncodingForm.Statement .sbbC := rfl
theorem EncodingForm.sbbD : EncodingForm.Statement .sbbD := rfl
theorem EncodingForm.sbbE : EncodingForm.Statement .sbbE := rfl
theorem EncodingForm.sbbH : EncodingForm.Statement .sbbH := rfl
theorem EncodingForm.sbbL : EncodingForm.Statement .sbbL := rfl
theorem EncodingForm.sbbM : EncodingForm.Statement .sbbM := rfl
theorem EncodingForm.sbbA : EncodingForm.Statement .sbbA := rfl
theorem EncodingForm.anaB : EncodingForm.Statement .anaB := rfl
theorem EncodingForm.anaC : EncodingForm.Statement .anaC := rfl
theorem EncodingForm.anaD : EncodingForm.Statement .anaD := rfl
theorem EncodingForm.anaE : EncodingForm.Statement .anaE := rfl
theorem EncodingForm.anaH : EncodingForm.Statement .anaH := rfl
theorem EncodingForm.anaL : EncodingForm.Statement .anaL := rfl
theorem EncodingForm.anaM : EncodingForm.Statement .anaM := rfl
theorem EncodingForm.anaA : EncodingForm.Statement .anaA := rfl
theorem EncodingForm.xraB : EncodingForm.Statement .xraB := rfl
theorem EncodingForm.xraC : EncodingForm.Statement .xraC := rfl
theorem EncodingForm.xraD : EncodingForm.Statement .xraD := rfl
theorem EncodingForm.xraE : EncodingForm.Statement .xraE := rfl
theorem EncodingForm.xraH : EncodingForm.Statement .xraH := rfl
theorem EncodingForm.xraL : EncodingForm.Statement .xraL := rfl
theorem EncodingForm.xraM : EncodingForm.Statement .xraM := rfl
theorem EncodingForm.xraA : EncodingForm.Statement .xraA := rfl
theorem EncodingForm.oraB : EncodingForm.Statement .oraB := rfl
theorem EncodingForm.oraC : EncodingForm.Statement .oraC := rfl
theorem EncodingForm.oraD : EncodingForm.Statement .oraD := rfl
theorem EncodingForm.oraE : EncodingForm.Statement .oraE := rfl
theorem EncodingForm.oraH : EncodingForm.Statement .oraH := rfl
theorem EncodingForm.oraL : EncodingForm.Statement .oraL := rfl
theorem EncodingForm.oraM : EncodingForm.Statement .oraM := rfl
theorem EncodingForm.oraA : EncodingForm.Statement .oraA := rfl
theorem EncodingForm.cmpB : EncodingForm.Statement .cmpB := rfl
theorem EncodingForm.cmpC : EncodingForm.Statement .cmpC := rfl
theorem EncodingForm.cmpD : EncodingForm.Statement .cmpD := rfl
theorem EncodingForm.cmpE : EncodingForm.Statement .cmpE := rfl
theorem EncodingForm.cmpH : EncodingForm.Statement .cmpH := rfl
theorem EncodingForm.cmpL : EncodingForm.Statement .cmpL := rfl
theorem EncodingForm.cmpM : EncodingForm.Statement .cmpM := rfl
theorem EncodingForm.cmpA : EncodingForm.Statement .cmpA := rfl
theorem EncodingForm.rnz : EncodingForm.Statement .rnz := rfl
theorem EncodingForm.popB : EncodingForm.Statement .popB := rfl
theorem EncodingForm.jnz (a16 : Word) : EncodingForm.Statement (.jnz a16) := rfl
theorem EncodingForm.jmp (a16 : Word) : EncodingForm.Statement (.jmp a16) := rfl
theorem EncodingForm.cnz (a16 : Word) : EncodingForm.Statement (.cnz a16) := rfl
theorem EncodingForm.pushB : EncodingForm.Statement .pushB := rfl
theorem EncodingForm.adi (d8 : Byte) : EncodingForm.Statement (.adi d8) := rfl
theorem EncodingForm.rst0 : EncodingForm.Statement .rst0 := rfl
theorem EncodingForm.rz : EncodingForm.Statement .rz := rfl
theorem EncodingForm.ret : EncodingForm.Statement .ret := rfl
theorem EncodingForm.jz (a16 : Word) : EncodingForm.Statement (.jz a16) := rfl
theorem EncodingForm.failStopCB : EncodingForm.Statement .failStopCB := rfl
theorem EncodingForm.cz (a16 : Word) : EncodingForm.Statement (.cz a16) := rfl
theorem EncodingForm.call (a16 : Word) : EncodingForm.Statement (.call a16) := rfl
theorem EncodingForm.aci (d8 : Byte) : EncodingForm.Statement (.aci d8) := rfl
theorem EncodingForm.rst1 : EncodingForm.Statement .rst1 := rfl
theorem EncodingForm.rnc : EncodingForm.Statement .rnc := rfl
theorem EncodingForm.popD : EncodingForm.Statement .popD := rfl
theorem EncodingForm.jnc (a16 : Word) : EncodingForm.Statement (.jnc a16) := rfl
theorem EncodingForm.outPort (p8 : Byte) : EncodingForm.Statement (.outPort p8) := rfl
theorem EncodingForm.cnc (a16 : Word) : EncodingForm.Statement (.cnc a16) := rfl
theorem EncodingForm.pushD : EncodingForm.Statement .pushD := rfl
theorem EncodingForm.sui (d8 : Byte) : EncodingForm.Statement (.sui d8) := rfl
theorem EncodingForm.rst2 : EncodingForm.Statement .rst2 := rfl
theorem EncodingForm.rc : EncodingForm.Statement .rc := rfl
theorem EncodingForm.failStopD9 : EncodingForm.Statement .failStopD9 := rfl
theorem EncodingForm.jc (a16 : Word) : EncodingForm.Statement (.jc a16) := rfl
theorem EncodingForm.inPort (p8 : Byte) : EncodingForm.Statement (.inPort p8) := rfl
theorem EncodingForm.cc (a16 : Word) : EncodingForm.Statement (.cc a16) := rfl
theorem EncodingForm.failStopDD : EncodingForm.Statement .failStopDD := rfl
theorem EncodingForm.sbi (d8 : Byte) : EncodingForm.Statement (.sbi d8) := rfl
theorem EncodingForm.rst3 : EncodingForm.Statement .rst3 := rfl
theorem EncodingForm.rpo : EncodingForm.Statement .rpo := rfl
theorem EncodingForm.popH : EncodingForm.Statement .popH := rfl
theorem EncodingForm.jpo (a16 : Word) : EncodingForm.Statement (.jpo a16) := rfl
theorem EncodingForm.xthl : EncodingForm.Statement .xthl := rfl
theorem EncodingForm.cpo (a16 : Word) : EncodingForm.Statement (.cpo a16) := rfl
theorem EncodingForm.pushH : EncodingForm.Statement .pushH := rfl
theorem EncodingForm.ani (d8 : Byte) : EncodingForm.Statement (.ani d8) := rfl
theorem EncodingForm.rst4 : EncodingForm.Statement .rst4 := rfl
theorem EncodingForm.rpe : EncodingForm.Statement .rpe := rfl
theorem EncodingForm.pchl : EncodingForm.Statement .pchl := rfl
theorem EncodingForm.jpe (a16 : Word) : EncodingForm.Statement (.jpe a16) := rfl
theorem EncodingForm.xchg : EncodingForm.Statement .xchg := rfl
theorem EncodingForm.cpe (a16 : Word) : EncodingForm.Statement (.cpe a16) := rfl
theorem EncodingForm.failStopED : EncodingForm.Statement .failStopED := rfl
theorem EncodingForm.xri (d8 : Byte) : EncodingForm.Statement (.xri d8) := rfl
theorem EncodingForm.rst5 : EncodingForm.Statement .rst5 := rfl
theorem EncodingForm.rp : EncodingForm.Statement .rp := rfl
theorem EncodingForm.popPSW : EncodingForm.Statement .popPSW := rfl
theorem EncodingForm.jp (a16 : Word) : EncodingForm.Statement (.jp a16) := rfl
theorem EncodingForm.di : EncodingForm.Statement .di := rfl
theorem EncodingForm.cp (a16 : Word) : EncodingForm.Statement (.cp a16) := rfl
theorem EncodingForm.pushPSW : EncodingForm.Statement .pushPSW := rfl
theorem EncodingForm.ori (d8 : Byte) : EncodingForm.Statement (.ori d8) := rfl
theorem EncodingForm.rst6 : EncodingForm.Statement .rst6 := rfl
theorem EncodingForm.rm : EncodingForm.Statement .rm := rfl
theorem EncodingForm.sphl : EncodingForm.Statement .sphl := rfl
theorem EncodingForm.jm (a16 : Word) : EncodingForm.Statement (.jm a16) := rfl
theorem EncodingForm.ei : EncodingForm.Statement .ei := rfl
theorem EncodingForm.cm (a16 : Word) : EncodingForm.Statement (.cm a16) := rfl
theorem EncodingForm.failStopFD : EncodingForm.Statement .failStopFD := rfl
theorem EncodingForm.cpi (d8 : Byte) : EncodingForm.Statement (.cpi d8) := rfl
theorem EncodingForm.rst7 : EncodingForm.Statement .rst7 := rfl

end Sys2Proof.Laws
end

