-- ==== Sys2Proof/Tests/Slice0.lean ====
section
/-! SUPPORT. Tests: the form check, every opcode byte written out from the layouts of R71 and the fixed bytes of R75, one
step for each kind of instruction, and a witness for the hypotheses of every obligation that has any. Expected
results are from spec/95_test_vectors.md (sections 2.2 to 2.8), never from the model. -/

namespace Sys2Proof.Tests

open Sys2Proof.Machine Sys2Proof.Claims

/-! ## The form of a byte string (WellFormed) -/

theorem test_form_ok : checkBytes [0xC3, 0x05, 0x00] = none := by decide
theorem test_form_no_opcode : checkBytes [] = some .noOpcode := by decide
theorem test_form_too_short : checkBytes [0x3E] = some (.tooShort 0x3E) := by decide
theorem test_form_too_short_3 : checkBytes [0xCD, 0x34] = some (.tooShort 0xCD) := by decide
theorem test_form_too_long : checkBytes [0x00, 0x00] = some (.tooLong 0x00) := by decide
theorem test_decode_empty : decode [] = .reject .noOpcode := by decide
theorem test_decode_truncated : decode [0xCD, 0x34] = .reject (.missingOperand 0xCD) := by decide

/-! ## Decoding: the words of each layout (R71, R75), low byte of an operand first (R72) -/

/-- Each byte string, with one byte after it, decodes to its instruction and leaves that byte. -/
def reads (l : List (List Byte × Instr)) : Bool :=
  l.all (fun e => decode (e.1 ++ [0xA5]) == .instr e.2 [0xA5])

/-- `01dddsss`, ddd = 000. -/
theorem test_decode_mov_to_b : reads
    [([0b01000000], .movBB), ([0b01000001], .movBC), ([0b01000010], .movBD), ([0b01000011], .movBE),
    ([0b01000100], .movBH), ([0b01000101], .movBL), ([0b01000110], .movBM), ([0b01000111], .movBA)] = true := by decide

/-- `01dddsss`, ddd = 001. -/
theorem test_decode_mov_to_c : reads
    [([0b01001000], .movCB), ([0b01001001], .movCC), ([0b01001010], .movCD), ([0b01001011], .movCE),
    ([0b01001100], .movCH), ([0b01001101], .movCL), ([0b01001110], .movCM), ([0b01001111], .movCA)] = true := by decide

/-- `01dddsss`, ddd = 010. -/
theorem test_decode_mov_to_d : reads
    [([0b01010000], .movDB), ([0b01010001], .movDC), ([0b01010010], .movDD), ([0b01010011], .movDE),
    ([0b01010100], .movDH), ([0b01010101], .movDL), ([0b01010110], .movDM), ([0b01010111], .movDA)] = true := by decide

/-- `01dddsss`, ddd = 011. -/
theorem test_decode_mov_to_e : reads
    [([0b01011000], .movEB), ([0b01011001], .movEC), ([0b01011010], .movED), ([0b01011011], .movEE),
    ([0b01011100], .movEH), ([0b01011101], .movEL), ([0b01011110], .movEM), ([0b01011111], .movEA)] = true := by decide

/-- `01dddsss`, ddd = 100. -/
theorem test_decode_mov_to_h : reads
    [([0b01100000], .movHB), ([0b01100001], .movHC), ([0b01100010], .movHD), ([0b01100011], .movHE),
    ([0b01100100], .movHH), ([0b01100101], .movHL), ([0b01100110], .movHM), ([0b01100111], .movHA)] = true := by decide

/-- `01dddsss`, ddd = 101. -/
theorem test_decode_mov_to_l : reads
    [([0b01101000], .movLB), ([0b01101001], .movLC), ([0b01101010], .movLD), ([0b01101011], .movLE),
    ([0b01101100], .movLH), ([0b01101101], .movLL), ([0b01101110], .movLM), ([0b01101111], .movLA)] = true := by decide

/-- `01dddsss`, ddd = 110. -/
theorem test_decode_mov_to_m : reads
    [([0b01110000], .movMB), ([0b01110001], .movMC), ([0b01110010], .movMD), ([0b01110011], .movME),
    ([0b01110100], .movMH), ([0b01110101], .movML), ([0b01110110], .hlt), ([0b01110111], .movMA)] = true := by decide

/-- `01dddsss`, ddd = 111. -/
theorem test_decode_mov_to_a : reads
    [([0b01111000], .movAB), ([0b01111001], .movAC), ([0b01111010], .movAD), ([0b01111011], .movAE),
    ([0b01111100], .movAH), ([0b01111101], .movAL), ([0b01111110], .movAM), ([0b01111111], .movAA)] = true := by decide

/-- `10ooosss`, ooo = 000. -/
theorem test_decode_add : reads
    [([0b10000000], .addB), ([0b10000001], .addC), ([0b10000010], .addD), ([0b10000011], .addE),
    ([0b10000100], .addH), ([0b10000101], .addL), ([0b10000110], .addM), ([0b10000111], .addA)] = true := by decide

/-- `10ooosss`, ooo = 001. -/
theorem test_decode_adc : reads
    [([0b10001000], .adcB), ([0b10001001], .adcC), ([0b10001010], .adcD), ([0b10001011], .adcE),
    ([0b10001100], .adcH), ([0b10001101], .adcL), ([0b10001110], .adcM), ([0b10001111], .adcA)] = true := by decide

/-- `10ooosss`, ooo = 010. -/
theorem test_decode_sub : reads
    [([0b10010000], .subB), ([0b10010001], .subC), ([0b10010010], .subD), ([0b10010011], .subE),
    ([0b10010100], .subH), ([0b10010101], .subL), ([0b10010110], .subM), ([0b10010111], .subA)] = true := by decide

/-- `10ooosss`, ooo = 011. -/
theorem test_decode_sbb : reads
    [([0b10011000], .sbbB), ([0b10011001], .sbbC), ([0b10011010], .sbbD), ([0b10011011], .sbbE),
    ([0b10011100], .sbbH), ([0b10011101], .sbbL), ([0b10011110], .sbbM), ([0b10011111], .sbbA)] = true := by decide

/-- `10ooosss`, ooo = 100. -/
theorem test_decode_ana : reads
    [([0b10100000], .anaB), ([0b10100001], .anaC), ([0b10100010], .anaD), ([0b10100011], .anaE),
    ([0b10100100], .anaH), ([0b10100101], .anaL), ([0b10100110], .anaM), ([0b10100111], .anaA)] = true := by decide

/-- `10ooosss`, ooo = 101. -/
theorem test_decode_xra : reads
    [([0b10101000], .xraB), ([0b10101001], .xraC), ([0b10101010], .xraD), ([0b10101011], .xraE),
    ([0b10101100], .xraH), ([0b10101101], .xraL), ([0b10101110], .xraM), ([0b10101111], .xraA)] = true := by decide

/-- `10ooosss`, ooo = 110. -/
theorem test_decode_ora : reads
    [([0b10110000], .oraB), ([0b10110001], .oraC), ([0b10110010], .oraD), ([0b10110011], .oraE),
    ([0b10110100], .oraH), ([0b10110101], .oraL), ([0b10110110], .oraM), ([0b10110111], .oraA)] = true := by decide

/-- `10ooosss`, ooo = 111. -/
theorem test_decode_cmp : reads
    [([0b10111000], .cmpB), ([0b10111001], .cmpC), ([0b10111010], .cmpD), ([0b10111011], .cmpE),
    ([0b10111100], .cmpH), ([0b10111101], .cmpL), ([0b10111110], .cmpM), ([0b10111111], .cmpA)] = true := by decide

/-- `00ddd110`. -/
theorem test_decode_mvi : reads
    [([0b00000110, 0x9C], .mviB 0x9C), ([0b00001110, 0x9C], .mviC 0x9C), ([0b00010110, 0x9C], .mviD 0x9C),
    ([0b00011110, 0x9C], .mviE 0x9C), ([0b00100110, 0x9C], .mviH 0x9C), ([0b00101110, 0x9C], .mviL 0x9C),
    ([0b00110110, 0x9C], .mviM 0x9C), ([0b00111110, 0x9C], .mviA 0x9C)] = true := by decide

/-- `00ddd100`, `00ddd101`. -/
theorem test_decode_inr_dcr : reads
    [([0b00000100], .inrB), ([0b00001100], .inrC), ([0b00010100], .inrD), ([0b00011100], .inrE),
    ([0b00100100], .inrH), ([0b00101100], .inrL), ([0b00110100], .inrM), ([0b00111100], .inrA),
    ([0b00000101], .dcrB), ([0b00001101], .dcrC), ([0b00010101], .dcrD), ([0b00011101], .dcrE),
    ([0b00100101], .dcrH), ([0b00101101], .dcrL), ([0b00110101], .dcrM), ([0b00111101], .dcrA)] = true := by decide

/-- `00pp0001`, `00pp0011`, `00pp1011`, `00pp1001`. -/
theorem test_decode_pairs : reads
    [([0b00000001, 0x34, 0x12], .lxiB 0x1234), ([0b00010001, 0x34, 0x12], .lxiD 0x1234),
    ([0b00100001, 0x34, 0x12], .lxiH 0x1234), ([0b00110001, 0x34, 0x12], .lxiSP 0x1234), ([0b00000011], .inxB),
    ([0b00010011], .inxD), ([0b00100011], .inxH), ([0b00110011], .inxSP), ([0b00001011], .dcxB),
    ([0b00011011], .dcxD), ([0b00101011], .dcxH), ([0b00111011], .dcxSP), ([0b00001001], .dadB),
    ([0b00011001], .dadD), ([0b00101001], .dadH), ([0b00111001], .dadSP)] = true := by decide

/-- `11ooo110`. -/
theorem test_decode_alu_immediate : reads
    [([0b11000110, 0x9C], .adi 0x9C), ([0b11001110, 0x9C], .aci 0x9C), ([0b11010110, 0x9C], .sui 0x9C),
    ([0b11011110, 0x9C], .sbi 0x9C), ([0b11100110, 0x9C], .ani 0x9C), ([0b11101110, 0x9C], .xri 0x9C),
    ([0b11110110, 0x9C], .ori 0x9C), ([0b11111110, 0x9C], .cpi 0x9C)] = true := by decide

/-- `11ccc010`. -/
theorem test_decode_conditional_jumps : reads
    [([0b11000010, 0x34, 0x12], .jnz 0x1234), ([0b11001010, 0x34, 0x12], .jz 0x1234),
    ([0b11010010, 0x34, 0x12], .jnc 0x1234), ([0b11011010, 0x34, 0x12], .jc 0x1234),
    ([0b11100010, 0x34, 0x12], .jpo 0x1234), ([0b11101010, 0x34, 0x12], .jpe 0x1234),
    ([0b11110010, 0x34, 0x12], .jp 0x1234), ([0b11111010, 0x34, 0x12], .jm 0x1234)] = true := by decide

/-- `11ccc100`. -/
theorem test_decode_conditional_calls : reads
    [([0b11000100, 0x34, 0x12], .cnz 0x1234), ([0b11001100, 0x34, 0x12], .cz 0x1234),
    ([0b11010100, 0x34, 0x12], .cnc 0x1234), ([0b11011100, 0x34, 0x12], .cc 0x1234),
    ([0b11100100, 0x34, 0x12], .cpo 0x1234), ([0b11101100, 0x34, 0x12], .cpe 0x1234),
    ([0b11110100, 0x34, 0x12], .cp 0x1234), ([0b11111100, 0x34, 0x12], .cm 0x1234)] = true := by decide

/-- `11ccc000`. -/
theorem test_decode_conditional_returns : reads
    [([0b11000000], .rnz), ([0b11001000], .rz), ([0b11010000], .rnc), ([0b11011000], .rc), ([0b11100000], .rpo),
    ([0b11101000], .rpe), ([0b11110000], .rp), ([0b11111000], .rm)] = true := by decide

/-- `11nnn111`. -/
theorem test_decode_restarts : reads
    [([0b11000111], .rst0), ([0b11001111], .rst1), ([0b11010111], .rst2), ([0b11011111], .rst3),
    ([0b11100111], .rst4), ([0b11101111], .rst5), ([0b11110111], .rst6), ([0b11111111], .rst7)] = true := by decide

/-- `11pp0101`, `11pp0001`. -/
theorem test_decode_stack : reads
    [([0b11000101], .pushB), ([0b11010101], .pushD), ([0b11100101], .pushH), ([0b11110101], .pushPSW),
    ([0b11000001], .popB), ([0b11010001], .popD), ([0b11100001], .popH), ([0b11110001], .popPSW)] = true := by decide

/-- `000p0010`, `000p1010` and the fixed bytes of R75. -/
theorem test_decode_loads_and_stores : reads
    [([0b00000010], .staxB), ([0b00010010], .staxD), ([0b00001010], .ldaxB), ([0b00011010], .ldaxD),
    ([0x22, 0x34, 0x12], .shld 0x1234), ([0x2A, 0x34, 0x12], .lhld 0x1234), ([0x32, 0x34, 0x12], .sta 0x1234),
    ([0x3A, 0x34, 0x12], .lda 0x1234), ([0xEB], .xchg)] = true := by decide

/-- the fixed bytes of R75. -/
theorem test_decode_rotates_and_carry : reads
    [([0x07], .rlc), ([0x0F], .rrc), ([0x17], .ral), ([0x1F], .rar), ([0x27], .daa), ([0x2F], .cma),
    ([0x37], .stc), ([0x3F], .cmc)] = true := by decide

/-- the fixed bytes of R75. -/
theorem test_decode_control_and_io : reads
    [([0xC3, 0x34, 0x12], .jmp 0x1234), ([0xCD, 0x34, 0x12], .call 0x1234), ([0xC9], .ret), ([0xE9], .pchl),
    ([0xF9], .sphl), ([0xE3], .xthl), ([0xD3, 0x9C], .outPort 0x9C), ([0xDB, 0x9C], .inPort 0x9C),
    ([0xF3], .di), ([0xFB], .ei), ([0x20], .rim), ([0x30], .sim), ([0x00], .nop)] = true := by decide

/-- the ten bytes of R80. -/
theorem test_decode_unassigned : reads
    [([0x08], .nopAlias08), ([0x10], .nopAlias10), ([0x18], .nopAlias18), ([0x28], .nopAlias28),
    ([0x38], .nopAlias38), ([0xCB], .failStopCB), ([0xD9], .failStopD9), ([0xDD], .failStopDD),
    ([0xED], .failStopED), ([0xFD], .failStopFD)] = true := by decide

theorem test_decodeTableWord_reads_first_byte_low :
    decodeTableWord 24 0x001234C3 = some (.jmp 0x1234) ∧ decodeTableWord 8 0x3E = some (.mviA 0x00) := by decide

theorem test_withFetchWord_runs_next :
    nextState (step (State.reset.withFetchWord 16 0x253E)) =
      some { State.reset.withFetchWord 16 0x253E with a := 0x25, pc := 0x0002 } := by decide

theorem test_withFetchWord_in_a_halted_core :
    nextState (step ({ State.reset with halted := true }.withFetchWord 8 0x3C)) =
      some { State.reset.withFetchWord 8 0x3C with
        a := 0x01, flags := ⟨false, false, false, false, false⟩, pc := 0x0001 } := by decide

/-! ## One step of each kind of instruction -/

/-- The reset state with PC and code at an address. -/
def codeAt (pc : Word) (bytes : List Byte) : State :=
  let s := { State.reset with pc := pc }
  match bytes with
  | [] => s
  | [b1] => s.writeMem pc b1
  | [b1, b2] => (s.writeMem pc b1).writeMem (pc + 1) b2
  | b1 :: b2 :: b3 :: _ => ((s.writeMem pc b1).writeMem (pc + 1) b2).writeMem (pc + 2) b3

/-- One step gives exactly the expected state. -/
def steps (s : State) (expected : State → State) : Bool := nextState (step s) == some (expected s)

theorem test_mov_b_a : steps { codeAt 0x2000 [0x47] with a := 0x5A }
    (fun s => { s with b := 0x5A, pc := 0x2001 }) = true := by decide
theorem test_mov_e_m : steps { (codeAt 0x2000 [0x5E]).writeMem 0x3010 0x77 with h := 0x30, l := 0x10 }
    (fun s => { s with e := 0x77, pc := 0x2001 }) = true := by decide
theorem test_mov_m_c : steps { codeAt 0x2000 [0x71] with h := 0x30, l := 0x10, c := 0x99 }
    (fun s => { s.writeMem 0x3010 0x99 with pc := 0x2001 }) = true := by decide
theorem test_mov_m_h : steps { codeAt 0x2000 [0x74] with h := 0x30, l := 0x10 }
    (fun s => { s.writeMem 0x3010 0x30 with pc := 0x2001 }) = true := by decide
theorem test_mvi_m : steps { codeAt 0x2000 [0x36, 0x77] with h := 0x30, l := 0x10 }
    (fun s => { s.writeMem 0x3010 0x77 with pc := 0x2002 }) = true := by decide
theorem test_mvi_at_the_top_of_memory : steps (codeAt 0xFFFF [0x3E, 0x99])
    (fun s => { s with a := 0x99, pc := 0x0001 }) = true := by decide
theorem test_lxi_h : steps (codeAt 0x2000 [0x21, 0x34, 0x12])
    (fun s => { s with h := 0x12, l := 0x34, pc := 0x2003 }) = true := by decide
theorem test_lxi_b : steps (codeAt 0x2000 [0x01, 0xCD, 0xAB])
    (fun s => { s with b := 0xAB, c := 0xCD, pc := 0x2003 }) = true := by decide
theorem test_lxi_sp : steps { codeAt 0x2000 [0x31, 0x00, 0x20] with sp := 0xFFFE }
    (fun s => { s with pc := 0x2003, sp := 0x2000 }) = true := by decide
theorem test_lda : steps ((codeAt 0x2000 [0x3A, 0x00, 0x30]).writeMem 0x3000 0xC3)
    (fun s => { s with a := 0xC3, pc := 0x2003 }) = true := by decide
theorem test_sta_over_its_own_operand : steps { codeAt 0x2000 [0x32, 0x01, 0x20] with a := 0x5A }
    (fun s => { ((s.writeMem 0x2000 0x32).writeMem 0x2001 0x5A).writeMem 0x2002 0x20 with pc := 0x2003 }) = true := by decide
theorem test_lhld_wraps : steps (((codeAt 0x2000 [0x2A, 0xFF, 0xFF]).writeMem 0xFFFF 0x34).writeMem 0x0000 0x12)
    (fun s => { s with h := 0x12, l := 0x34, pc := 0x2003 }) = true := by decide
theorem test_shld_wraps : steps { codeAt 0x2000 [0x22, 0xFF, 0xFF] with h := 0xAB, l := 0xCD }
    (fun s => { (s.writeMem 0xFFFF 0xCD).writeMem 0x0000 0xAB with pc := 0x2003 }) = true := by decide
theorem test_ldax_b : steps { (codeAt 0x2000 [0x0A]).writeMem 0x3000 0x42 with b := 0x30, c := 0x00 }
    (fun s => { s with a := 0x42, pc := 0x2001 }) = true := by decide
theorem test_ldax_d : steps { (codeAt 0x2000 [0x1A]).writeMem 0x3001 0x43 with d := 0x30, e := 0x01 }
    (fun s => { s with a := 0x43, pc := 0x2001 }) = true := by decide
theorem test_stax_b : steps { codeAt 0x2000 [0x02] with a := 0x5A, b := 0x30, c := 0x00 }
    (fun s => { s.writeMem 0x3000 0x5A with pc := 0x2001 }) = true := by decide
theorem test_stax_d : steps { codeAt 0x2000 [0x12] with a := 0x5A, d := 0x30, e := 0x01 }
    (fun s => { s.writeMem 0x3001 0x5A with pc := 0x2001 }) = true := by decide
theorem test_xchg : steps { codeAt 0x2000 [0xEB] with d := 0x11, e := 0x22, h := 0x33, l := 0x44 }
    (fun s => { s with d := 0x33, e := 0x44, h := 0x11, l := 0x22, pc := 0x2001 }) = true := by decide
theorem test_add_b : steps { codeAt 0x2000 [0x80] with a := 0x25, b := 0x35 }
    (fun s => { s with a := 0x5A, pc := 0x2001, flags := ⟨false, false, false, true, false⟩ }) = true := by decide
theorem test_add_a : steps { codeAt 0x2000 [0x87] with a := 0x80 }
    (fun s => { s with a := 0x00, pc := 0x2001, flags := ⟨false, true, false, true, true⟩ }) = true := by decide
theorem test_add_m : steps { (codeAt 0x2000 [0x86]).writeMem 0x3000 0x01 with a := 0xFF, h := 0x30, l := 0x00 }
    (fun s => { s with a := 0x00, pc := 0x2001, flags := ⟨false, true, true, true, true⟩ }) = true := by decide
theorem test_adc_c :
    steps { codeAt 0x2000 [0x89] with a := 0x3D, c := 0x42, flags := ⟨false, true, false, true, true⟩ }
      (fun s => { s with a := 0x80, pc := 0x2001, flags := ⟨true, false, true, false, false⟩ }) = true := by decide
theorem test_adc_a : steps { codeAt 0x2000 [0x8F] with a := 0xFF, flags := ⟨false, true, false, true, true⟩ }
    (fun s => { s with pc := 0x2001, flags := ⟨true, false, true, true, true⟩ }) = true := by decide
theorem test_adc_m :
    steps { (codeAt 0x2000 [0x8E]).writeMem 0x3000 0x00 with a := 0x0F, h := 0x30, l := 0x00, flags := ⟨false, true, false, true, true⟩ }
      (fun s => { s with a := 0x10, pc := 0x2001, flags := ⟨false, false, true, false, false⟩ }) = true := by decide
theorem test_sub_b : steps { codeAt 0x2000 [0x90] with a := 0x00, b := 0x01 }
    (fun s => { s with a := 0xFF, pc := 0x2001, flags := ⟨true, false, true, true, true⟩ }) = true := by decide
theorem test_sub_a : steps { codeAt 0x2000 [0x97] with a := 0x5A, flags := ⟨false, true, false, true, true⟩ }
    (fun s => { s with a := 0x00, pc := 0x2001, flags := ⟨false, true, false, true, false⟩ }) = true := by decide
theorem test_sub_m : steps { (codeAt 0x2000 [0x96]).writeMem 0x3000 0x01 with a := 0x10, h := 0x30, l := 0x00 }
    (fun s => { s with a := 0x0F, pc := 0x2001, flags := ⟨false, false, true, true, false⟩ }) = true := by decide
theorem test_sbb_d :
    steps { codeAt 0x2000 [0x9A] with a := 0x04, d := 0x02, flags := ⟨false, true, false, true, true⟩ }
      (fun s => { s with a := 0x01, pc := 0x2001, flags := ⟨false, false, false, false, false⟩ }) = true := by decide
theorem test_sbb_a : steps { codeAt 0x2000 [0x9F] with a := 0x5A, flags := ⟨false, true, false, true, true⟩ }
    (fun s => { s with a := 0xFF, pc := 0x2001, flags := ⟨true, false, true, true, true⟩ }) = true := by decide
theorem test_sbb_m :
    steps { (codeAt 0x2000 [0x9E]).writeMem 0x3000 0xFF with a := 0x00, h := 0x30, l := 0x00, flags := ⟨false, true, false, true, true⟩ }
      (fun s => { s with pc := 0x2001, flags := ⟨false, true, true, true, true⟩ }) = true := by decide
theorem test_adi : steps { codeAt 0x2000 [0xC6, 0x35] with a := 0x25 }
    (fun s => { s with a := 0x5A, pc := 0x2002, flags := ⟨false, false, false, true, false⟩ }) = true := by decide
theorem test_aci : steps { codeAt 0x2000 [0xCE, 0x00] with a := 0xFF, flags := ⟨false, true, false, true, true⟩ }
    (fun s => { s with a := 0x00, pc := 0x2002, flags := ⟨false, true, true, true, true⟩ }) = true := by decide
theorem test_sui : steps { codeAt 0x2000 [0xD6, 0x0A] with a := 0x05 }
    (fun s => { s with a := 0xFB, pc := 0x2002, flags := ⟨true, false, true, false, true⟩ }) = true := by decide
theorem test_sbi : steps { codeAt 0x2000 [0xDE, 0x01] with a := 0x00, flags := ⟨false, true, false, true, true⟩ }
    (fun s => { s with a := 0xFE, pc := 0x2002, flags := ⟨true, false, true, false, true⟩ }) = true := by decide
theorem test_inr_a_keeps_carry :
    steps { codeAt 0x2000 [0x3C] with a := 0xFF, flags := ⟨false, true, false, true, true⟩ }
      (fun s => { s with a := 0x00, pc := 0x2001, flags := ⟨false, true, true, true, true⟩ }) = true := by decide
theorem test_inr_b : steps { codeAt 0x2000 [0x04] with b := 0x7F }
    (fun s => { s with b := 0x80, pc := 0x2001, flags := ⟨true, false, true, false, false⟩ }) = true := by decide
theorem test_inr_m : steps { (codeAt 0x2000 [0x34]).writeMem 0x3000 0xFF with h := 0x30, l := 0x00 }
    (fun s => { s.writeMem 0x3000 0x00 with pc := 0x2001, flags := ⟨false, true, true, true, false⟩ }) = true := by decide
theorem test_dcr_c : steps { codeAt 0x2000 [0x0D] with c := 0x00 }
    (fun s => { s with c := 0xFF, pc := 0x2001, flags := ⟨true, false, true, true, false⟩ }) = true := by decide
theorem test_dcr_c_keeps_carry :
    steps { codeAt 0x2000 [0x0D] with c := 0x01, flags := ⟨false, true, false, true, true⟩ }
      (fun s => { s with c := 0x00, pc := 0x2001 }) = true := by decide
theorem test_dcr_m :
    steps { (codeAt 0x2000 [0x35]).writeMem 0x3000 0x80 with h := 0x30, l := 0x00, flags := ⟨false, true, false, true, true⟩ }
      (fun s => { s.writeMem 0x3000 0x7F with pc := 0x2001, flags := ⟨false, false, true, false, true⟩ }) = true := by decide
theorem test_inx_b : steps { codeAt 0x2000 [0x03] with b := 0xFF, c := 0xFF }
    (fun s => { s with b := 0x00, c := 0x00, pc := 0x2001 }) = true := by decide
theorem test_inx_h : steps { codeAt 0x2000 [0x23] with h := 0x12, l := 0xFF }
    (fun s => { s with h := 0x13, l := 0x00, pc := 0x2001 }) = true := by decide
theorem test_inx_sp : steps { codeAt 0x2000 [0x33] with sp := 0xFFFF }
    (fun s => { s with pc := 0x2001, sp := 0x0000 }) = true := by decide
theorem test_dcx_d : steps { codeAt 0x2000 [0x1B] with d := 0x00, e := 0x00 }
    (fun s => { s with d := 0xFF, e := 0xFF, pc := 0x2001 }) = true := by decide
theorem test_dcx_sp : steps { codeAt 0x2000 [0x3B] with sp := 0x0000 }
    (fun s => { s with pc := 0x2001, sp := 0xFFFF }) = true := by decide
theorem test_dad_b : steps { codeAt 0x2000 [0x09] with h := 0xFF, l := 0xFF, b := 0x00, c := 0x01 }
    (fun s => { s with h := 0x00, l := 0x00, pc := 0x2001, flags := ⟨false, true, false, true, true⟩ }) = true := by decide
theorem test_dad_d :
    steps { codeAt 0x2000 [0x19] with h := 0x12, l := 0x34, d := 0x11, e := 0x11, flags := ⟨false, true, false, true, true⟩ }
      (fun s => { s with h := 0x23, l := 0x45, pc := 0x2001, flags := ⟨false, true, false, true, false⟩ }) = true := by decide
theorem test_dad_h : steps { codeAt 0x2000 [0x29] with h := 0x80, l := 0x00 }
    (fun s => { s with h := 0x00, pc := 0x2001, flags := ⟨false, true, false, true, true⟩ }) = true := by decide
theorem test_dad_sp : steps { codeAt 0x2000 [0x39] with h := 0x10, l := 0x00, sp := 0xF000 }
    (fun s => { s with h := 0x00, pc := 0x2001, flags := ⟨false, true, false, true, true⟩ }) = true := by decide
theorem test_daa_low_and_high : steps { codeAt 0x2000 [0x27] with a := 0x9B }
    (fun s => { s with a := 0x01, pc := 0x2001, flags := ⟨false, false, true, false, true⟩ }) = true := by decide
theorem test_daa_keeps_carry :
    steps { codeAt 0x2000 [0x27] with a := 0x73, flags := ⟨false, true, true, true, true⟩ }
      (fun s => { s with a := 0xD9, pc := 0x2001, flags := ⟨true, false, false, false, true⟩ }) = true := by decide
theorem test_ana_b :
    steps { codeAt 0x2000 [0xA0] with a := 0xF0, b := 0x3C, flags := ⟨false, true, true, true, true⟩ }
      (fun s => { s with a := 0x30, pc := 0x2001, flags := ⟨false, false, false, true, false⟩ }) = true := by decide
theorem test_ana_m : steps { (codeAt 0x2000 [0xA6]).writeMem 0x3000 0xF0 with a := 0x0F, h := 0x30, l := 0x00 }
    (fun s => { s with a := 0x00, pc := 0x2001 }) = true := by decide
theorem test_xra_a : steps { codeAt 0x2000 [0xAF] with a := 0x5A, flags := ⟨false, true, true, true, true⟩ }
    (fun s => { s with a := 0x00, pc := 0x2001, flags := ⟨false, true, false, true, false⟩ }) = true := by decide
theorem test_xra_m : steps { (codeAt 0x2000 [0xAE]).writeMem 0x3000 0xFF with a := 0x55, h := 0x30, l := 0x00 }
    (fun s => { s with a := 0xAA, pc := 0x2001, flags := ⟨true, false, false, true, false⟩ }) = true := by decide
theorem test_ora_e :
    steps { codeAt 0x2000 [0xB3] with a := 0x80, e := 0x01, flags := ⟨false, true, false, true, true⟩ }
      (fun s => { s with a := 0x81, pc := 0x2001, flags := ⟨true, false, false, true, false⟩ }) = true := by decide
theorem test_ora_m : steps { (codeAt 0x2000 [0xB6]).writeMem 0x3000 0x02 with a := 0x01, h := 0x30, l := 0x00 }
    (fun s => { s with a := 0x03, pc := 0x2001, flags := ⟨false, false, false, true, false⟩ }) = true := by decide
theorem test_cmp_b_below : steps { codeAt 0x2000 [0xB8] with a := 0x10, b := 0x20 }
    (fun s => { s with pc := 0x2001, flags := ⟨true, false, false, true, true⟩ }) = true := by decide
theorem test_cmp_b_above : steps { codeAt 0x2000 [0xB8] with a := 0x20, b := 0x10 }
    (fun s => { s with pc := 0x2001, flags := ⟨false, false, false, false, false⟩ }) = true := by decide
theorem test_cmp_m : steps { (codeAt 0x2000 [0xBE]).writeMem 0x3000 0x01 with a := 0x00, h := 0x30, l := 0x00 }
    (fun s => { s with pc := 0x2001, flags := ⟨true, false, true, true, true⟩ }) = true := by decide
theorem test_ani : steps { codeAt 0x2000 [0xE6, 0x0F] with a := 0xA5, flags := ⟨false, true, true, true, true⟩ }
    (fun s => { s with a := 0x05, pc := 0x2002, flags := ⟨false, false, false, true, false⟩ }) = true := by decide
theorem test_xri : steps { codeAt 0x2000 [0xEE, 0xFF] with a := 0xA5 }
    (fun s => { s with a := 0x5A, pc := 0x2002, flags := ⟨false, false, false, true, false⟩ }) = true := by decide
theorem test_ori : steps { codeAt 0x2000 [0xF6, 0x00] with a := 0x00, flags := ⟨false, true, false, true, true⟩ }
    (fun s => { s with pc := 0x2002, flags := ⟨false, true, false, true, false⟩ }) = true := by decide
theorem test_cpi : steps { codeAt 0x2000 [0xFE, 0xFF] with a := 0x00 }
    (fun s => { s with pc := 0x2002, flags := ⟨false, false, true, false, true⟩ }) = true := by decide
theorem test_rlc : steps { codeAt 0x2000 [0x07] with a := 0xA5 }
    (fun s => { s with a := 0x4B, pc := 0x2001, flags := ⟨false, true, false, true, true⟩ }) = true := by decide
theorem test_rrc : steps { codeAt 0x2000 [0x0F] with a := 0xA5 }
    (fun s => { s with a := 0xD2, pc := 0x2001, flags := ⟨false, true, false, true, true⟩ }) = true := by decide
theorem test_ral : steps { codeAt 0x2000 [0x17] with a := 0xA5 }
    (fun s => { s with a := 0x4A, pc := 0x2001, flags := ⟨false, true, false, true, true⟩ }) = true := by decide
theorem test_rar : steps { codeAt 0x2000 [0x1F] with a := 0x80, flags := ⟨false, true, false, true, true⟩ }
    (fun s => { s with a := 0xC0, pc := 0x2001, flags := ⟨false, true, false, true, false⟩ }) = true := by decide
theorem test_cma : steps { codeAt 0x2000 [0x2F] with a := 0x5A, flags := ⟨false, true, true, true, true⟩ }
    (fun s => { s with a := 0xA5, pc := 0x2001 }) = true := by decide
theorem test_cmc : steps { codeAt 0x2000 [0x3F] with flags := ⟨false, true, false, true, true⟩ }
    (fun s => { s with pc := 0x2001, flags := ⟨false, true, false, true, false⟩ }) = true := by decide
theorem test_stc : steps (codeAt 0x2000 [0x37])
    (fun s => { s with pc := 0x2001, flags := ⟨false, true, false, true, true⟩ }) = true := by decide
theorem test_jmp_across_the_top_of_memory : steps (codeAt 0xFFFE [0xC3, 0x00, 0x40])
    (fun s => { s with pc := 0x4000 }) = true := by decide
theorem test_jnz_untaken : steps (codeAt 0x2000 [0xC2, 0x34, 0x12])
    (fun s => { s with pc := 0x2003 }) = true := by decide
theorem test_jnz_taken :
    steps { codeAt 0x2000 [0xC2, 0x34, 0x12] with flags := ⟨false, false, false, true, false⟩ }
      (fun s => { s with pc := 0x1234 }) = true := by decide
theorem test_jz : steps (codeAt 0x2000 [0xCA, 0x34, 0x12])
    (fun s => { s with pc := 0x1234 }) = true := by decide
theorem test_jnc : steps { codeAt 0x2000 [0xD2, 0x34, 0x12] with flags := ⟨false, true, false, true, true⟩ }
    (fun s => { s with pc := 0x2003 }) = true := by decide
theorem test_jc : steps { codeAt 0x2000 [0xDA, 0x34, 0x12] with flags := ⟨false, true, false, true, true⟩ }
    (fun s => { s with pc := 0x1234 }) = true := by decide
theorem test_jpo : steps (codeAt 0x2000 [0xE2, 0x34, 0x12])
    (fun s => { s with pc := 0x2003 }) = true := by decide
theorem test_jpe : steps (codeAt 0x2000 [0xEA, 0x34, 0x12])
    (fun s => { s with pc := 0x1234 }) = true := by decide
theorem test_jp : steps { codeAt 0x2000 [0xF2, 0x34, 0x12] with flags := ⟨true, true, false, true, false⟩ }
    (fun s => { s with pc := 0x2003 }) = true := by decide
theorem test_jm : steps { codeAt 0x2000 [0xFA, 0x34, 0x12] with flags := ⟨true, true, false, true, false⟩ }
    (fun s => { s with pc := 0x1234 }) = true := by decide
theorem test_call_across_the_top_of_memory : steps { codeAt 0xFFFE [0xCD, 0x34, 0x12] with sp := 0x3000 }
    (fun s => { (s.writeMem 0x2FFF 0x00).writeMem 0x2FFE 0x01 with pc := 0x1234, sp := 0x2FFE }) = true := by decide
theorem test_call_with_sp_wrapping : steps { codeAt 0x2000 [0xCD, 0x34, 0x12] with sp := 0x0001 }
    (fun s => { (s.writeMem 0x0000 0x20).writeMem 0xFFFF 0x03 with pc := 0x1234, sp := 0xFFFF }) = true := by decide
theorem test_cnz_untaken : steps { codeAt 0x2000 [0xC4, 0x34, 0x12] with sp := 0x3000 }
    (fun s => { (s.writeMem 0x2FFF 0x00).writeMem 0x2FFE 0x00 with pc := 0x2003 }) = true := by decide
theorem test_cz : steps { codeAt 0x2000 [0xCC, 0x34, 0x12] with sp := 0x3000 }
    (fun s => { (s.writeMem 0x2FFF 0x20).writeMem 0x2FFE 0x03 with pc := 0x1234, sp := 0x2FFE }) = true := by decide
theorem test_cm_untaken : steps { codeAt 0x2000 [0xFC, 0x34, 0x12] with sp := 0x3000 }
    (fun s => { (s.writeMem 0x2FFF 0x00).writeMem 0x2FFE 0x00 with pc := 0x2003 }) = true := by decide
theorem test_cpe : steps { codeAt 0x2000 [0xEC, 0x34, 0x12] with sp := 0x3000 }
    (fun s => { (s.writeMem 0x2FFF 0x20).writeMem 0x2FFE 0x03 with pc := 0x1234, sp := 0x2FFE }) = true := by decide
theorem test_ret_with_sp_wrapping :
    steps { ((codeAt 0x2000 [0xC9]).writeMem 0xFFFF 0x78).writeMem 0x0000 0x56 with sp := 0xFFFF }
      (fun s => { s with pc := 0x5678, sp := 0x0001 }) = true := by decide
theorem test_rnz_untaken :
    steps { ((codeAt 0x2000 [0xC0]).writeMem 0x3000 0x78).writeMem 0x3001 0x56 with sp := 0x3000 }
      (fun s => { s with pc := 0x2001 }) = true := by decide
theorem test_rz : steps { ((codeAt 0x2000 [0xC8]).writeMem 0x3000 0x78).writeMem 0x3001 0x56 with sp := 0x3000 }
    (fun s => { s with pc := 0x5678, sp := 0x3002 }) = true := by decide
theorem test_rc_untaken :
    steps { ((codeAt 0x2000 [0xD8]).writeMem 0x3000 0x78).writeMem 0x3001 0x56 with sp := 0x3000 }
      (fun s => { s with pc := 0x2001 }) = true := by decide
theorem test_rp : steps { ((codeAt 0x2000 [0xF0]).writeMem 0x3000 0x78).writeMem 0x3001 0x56 with sp := 0x3000 }
    (fun s => { s with pc := 0x5678, sp := 0x3002 }) = true := by decide
theorem test_rst3 : steps { codeAt 0x2000 [0xDF] with sp := 0x3000 }
    (fun s => { (s.writeMem 0x2FFF 0x20).writeMem 0x2FFE 0x01 with pc := 0x0018, sp := 0x2FFE }) = true := by decide
theorem test_rst7 : steps { codeAt 0x2000 [0xFF] with sp := 0x3000 }
    (fun s => { (s.writeMem 0x2FFF 0x20).writeMem 0x2FFE 0x01 with pc := 0x0038, sp := 0x2FFE }) = true := by decide
theorem test_pchl : steps { codeAt 0x2000 [0xE9] with h := 0x45, l := 0x67 }
    (fun s => { s with pc := 0x4567 }) = true := by decide
theorem test_push_b : steps { codeAt 0x2000 [0xC5] with b := 0x12, c := 0x34, sp := 0x2000 }
    (fun s => { (s.writeMem 0x1FFF 0x12).writeMem 0x1FFE 0x34 with pc := 0x2001, sp := 0x1FFE }) = true := by decide
theorem test_push_h_with_sp_wrapping : steps { codeAt 0x2000 [0xE5] with h := 0xAB, l := 0xCD, sp := 0x0001 }
    (fun s => { (s.writeMem 0x0000 0xAB).writeMem 0xFFFF 0xCD with pc := 0x2001, sp := 0xFFFF }) = true := by decide
theorem test_push_psw_all_set :
    steps { codeAt 0x2000 [0xF5] with a := 0x12, sp := 0x3000, flags := ⟨true, true, true, true, true⟩ }
      (fun s => { (s.writeMem 0x2FFF 0x12).writeMem 0x2FFE 0xD7 with pc := 0x2001, sp := 0x2FFE }) = true := by decide
theorem test_push_psw_all_clear :
    steps { codeAt 0x2000 [0xF5] with a := 0x00, sp := 0x3000, flags := ⟨false, false, false, false, false⟩ }
      (fun s => { (s.writeMem 0x2FFF 0x00).writeMem 0x2FFE 0x02 with pc := 0x2001, sp := 0x2FFE }) = true := by decide
theorem test_pop_d : steps { ((codeAt 0x2000 [0xD1]).writeMem 0x1FFE 0x34).writeMem 0x1FFF 0x12 with sp := 0x1FFE }
    (fun s => { s with d := 0x12, e := 0x34, pc := 0x2001, sp := 0x2000 }) = true := by decide
theorem test_pop_b_with_sp_wrapping :
    steps { ((codeAt 0x2000 [0xC1]).writeMem 0xFFFF 0xCD).writeMem 0x0000 0xAB with sp := 0xFFFF }
      (fun s => { s with b := 0xAB, c := 0xCD, pc := 0x2001, sp := 0x0001 }) = true := by decide
theorem test_pop_psw :
    steps { ((codeAt 0x2000 [0xF1]).writeMem 0x3000 0xFF).writeMem 0x3001 0x12 with sp := 0x3000 }
      (fun s => { s with a := 0x12, pc := 0x2001, sp := 0x3002, flags := ⟨true, true, true, true, true⟩ }) = true := by decide
theorem test_pop_psw_ignores_fixed_bits :
    steps { ((codeAt 0x2000 [0xF1]).writeMem 0x3000 0x2A).writeMem 0x3001 0x56 with sp := 0x3000 }
      (fun s => { s with a := 0x56, pc := 0x2001, sp := 0x3002, flags := ⟨false, false, false, false, false⟩ }) = true := by decide
theorem test_xthl_with_sp_wrapping :
    steps { ((codeAt 0x2000 [0xE3]).writeMem 0xFFFF 0x44).writeMem 0x0000 0x33 with h := 0x11, l := 0x22, sp := 0xFFFF }
      (fun s => { (s.writeMem 0xFFFF 0x22).writeMem 0x0000 0x11 with h := 0x33, l := 0x44, pc := 0x2001 }) = true := by decide
theorem test_sphl : steps { codeAt 0x2000 [0xF9] with h := 0x45, l := 0x67, sp := 0xFFFE }
    (fun s => { s with pc := 0x2001, sp := 0x4567 }) = true := by decide
theorem test_in : steps ((codeAt 0x2000 [0xDB, 0x11]).writePort 0x11 0xC3)
    (fun s => { s with a := 0xC3, pc := 0x2002 }) = true := by decide
theorem test_out : steps { codeAt 0x2000 [0xD3, 0x10] with a := 0x5A }
    (fun s => { s.writePort 0x10 0x5A with pc := 0x2002 }) = true := by decide
theorem test_ei : steps { codeAt 0x2000 [0xFB] with a := 0x5A }
    (fun s => { s with pc := 0x2001 }) = true := by decide
theorem test_di : steps { codeAt 0x2000 [0xF3] with a := 0x5A }
    (fun s => { s with pc := 0x2001 }) = true := by decide
theorem test_rim : steps { codeAt 0x2000 [0x20] with a := 0x5A }
    (fun s => { s with pc := 0x2001 }) = true := by decide
theorem test_sim : steps { codeAt 0x2000 [0x30] with a := 0x5A }
    (fun s => { s with pc := 0x2001 }) = true := by decide
theorem test_nop_at_the_top_of_memory : steps (codeAt 0xFFFF [0x00])
    (fun s => { s with pc := 0x0000 }) = true := by decide
theorem test_hlt : steps (codeAt 0x0100 [0x76])
    (fun s => { s with pc := 0x0101, halted := true }) = true := by decide
theorem test_nop_alias_08 : steps { codeAt 0x0100 [0x08] with a := 0x5A }
    (fun s => { s with pc := 0x0101 }) = true := by decide
theorem test_fail_stop_CB : steps { codeAt 0x0100 [0xCB, 0x34, 0x12] with a := 0x5A, sp := 0x3000 }
    (fun s => { s with pc := 0x0101, halted := true, illegal := true }) = true := by decide

/-- Program P6's last clause: with an empty `NOPALIAS` the byte 08 is the fail-stop too. -/
theorem test_fail_stop_08 :
    steps { codeAt 0x0000 [0x08] with nopAlias := ⟨false, false, false, false, false, false, false, false, false, false⟩ }
      (fun s => { s with pc := 0x0001, halted := true, illegal := true }) = true := by decide

theorem test_step_while_halted : steps { codeAt 0x0101 [0x3C] with halted := true } (fun s => s) = true := by decide

theorem test_halt_cause_of_a_fail_stop :
    ({ codeAt 0x0101 [] with halted := true, illegal := true }.haltCause).map HaltCause.number = some 1 := by decide

/-! ## The host (section 2.8 and section 1.4) -/

theorem test_writeByte_masks :
    (State.reset.writeByte 0x12000 0x1FF).readMem 0x2000 = 0xFF
      ∧ (State.reset.writeByte (-1) (-2)).readMem 0xFFFF = 0xFE := by decide

theorem test_host_writes_next_opcode :
    nextState (step ((codeAt 0x2000 [0x00]).writeByte 0x2000 0x3C)) =
      some { codeAt 0x2000 [0x3C] with
        a := 0x01, flags := ⟨false, false, false, false, false⟩, pc := 0x2001 } := by decide

theorem test_host_reset :
    let s := ({ State.reset with a := 0x5A, sp := 0x1234, pc := 0x4321, halted := true, illegal := true }.writeMem
      0x0100 0x77).writePort 0x10 0x88
    s.hostReset = (State.reset.writeMem 0x0100 0x77).writePort 0x10 0x88 := by decide

/-! ## Witnesses: states and operands that meet the hypotheses of the obligations -/

/-- A state in the middle of things: cells at both ends of memory, a port, SP and PC at the wrap. -/
def busy : State :=
  { ((State.reset.writeMem 0x0000 0x05).writeMem 0xFFFF 0xC3).writePort 0xFF 0x34 with
    a := 0x99, b := 0x99, h := 0xFF, l := 0xFF, sp := 0x0001, pc := 0xFFFF }

/-- For MemoryReadAfterWrite, PortReadAfterWrite, PushThenPopRestores, IncrementThenDecrementRestores,
PushAndPopStatus, HostWriteByteAndGetState and HostMovesKeepTheInvariant. -/
theorem witness_invariant : busy.Inv := ⟨by decide, by decide, by decide⟩

/-- `illegal` set: the third clause of the invariant is met there too. -/
theorem witness_invariant_illegal : { busy with halted := true, illegal := true }.Inv :=
  ⟨by decide, by decide, by decide⟩

/-- The three bytes at the PC of `busy` after a store of `v` at `x`. -/
def fetchedAfter (x : Word) (v : Byte) : List Byte :=
  let seen := fun y : Word => if y = x then v else busy.readMem y
  [seen busy.pc, seen (busy.pc + 1), seen (busy.pc + 2)]

/-- The three bytes at the PC of `busy` after `writeByte(address, value)`. -/
def fetchedAfterHost (address value : Int) : List Byte :=
  let seen := fun y : Word =>
    if (y.toNat : Int) = address % 65536 then BitVec.ofInt 8 value else busy.readMem y
  [seen busy.pc, seen (busy.pc + 1), seen (busy.pc + 2)]

theorem witness_EncodeOfDecodeIsTheBytes :
    decode [0xC3, 0x05, 0x00, 0x76] = .instr (.jmp 0x0005) [0x76] := by decide

theorem witness_LengthFromOpcodeByte :
    (0x3E ∈ length2 ∧ 0x3E ∉ length3) ∧ (0xCD ∈ length3 ∧ 0xCD ∉ length2) ∧ (0xCB ∉ length2 ∧ 0xCB ∉ length3) := by
  decide

theorem witness_DecodeRejectsOnlyTruncation :
    decode [0xC3, 0x05] = .reject (.missingOperand 0xC3) ∧ decode [0xD3] = .reject (.missingOperand 0xD3) := by decide

/-- The last clause: a byte with the fixed bits as packing leaves them. -/
theorem witness_PackedStatusByte : (0xD7#8 &&& 0x2A#8) = 0x02#8 := by decide

/-- The clauses on other addresses, at the top of memory: 0x0001 is neither 0xFFFF nor its successor. -/
theorem witness_MemoryReadAfterWrite : (0x0001#16 ≠ 0xFFFF#16) ∧ (0x0001#16 ≠ 0xFFFF#16 + 1) := by decide

theorem witness_PortReadAfterWrite : (0x00#8 : Byte) ≠ 0xFF#8 := by decide

/-- The clause on other addresses, with SP wrapping: the pushed bytes are 0x0000 and 0xFFFF. -/
theorem witness_PushThenPopRestores :
    busy.sp - 1 = 0x0000 ∧ busy.sp - 2 = 0xFFFF ∧ (0x0001#16 ≠ busy.sp - 1) ∧ (0x0001#16 ≠ busy.sp - 2) := by decide

theorem witness_StepWhileHaltedIsNoOp : { busy with halted := true }.halted = true := by decide

/-- A three-byte instruction whose operands wrap to address 0. -/
theorem witness_StepRunsDecodedInstruction :
    busy.halted = false ∧
      decode [busy.readMem busy.pc, busy.readMem (busy.pc + 1), busy.readMem (busy.pc + 2)]
        = .instr (.jmp 0x0005) [] := by decide

/-- A store at PC (the opcode), at PC + 1 and PC + 2 (the operands, wrapped to 0x0000 and 0x0001) and elsewhere. -/
theorem witness_FetchSeesEveryStore :
    busy.Inv ∧ busy.halted = false
      ∧ decode (fetchedAfter 0xFFFF 0x3E) = .instr (.mviA 0x05) [0x00]
      ∧ decode (fetchedAfter 0x0000 0x77) = .instr (.jmp 0x0077) []
      ∧ decode (fetchedAfter 0x0001 0x12) = .instr (.jmp 0x1205) []
      ∧ decode (fetchedAfter 0x0002 0x12) = .instr (.jmp 0x0005) [] :=
  ⟨witness_invariant, by decide, by decide, by decide, by decide, by decide⟩

/-- The same by `writeByte`, at addresses that are PC and PC + 1 modulo 65536. -/
theorem witness_FetchSeesEveryStore_writeByte :
    decode (fetchedAfterHost (-1) 0x13E) = .instr (.mviA 0x05) [0x00]
      ∧ decode (fetchedAfterHost 0x10000 0x77) = .instr (.jmp 0x0077) [] := by decide

/-- The largest operands: 99 + 99. -/
theorem witness_DecimalAdditionIsCorrect : (99 : Nat) < 100 ∧ busy.a = bcd 99 ∧ busy.b = bcd 99 := by decide

/-- For JumpsAndConditionalJumps, CallsPushTheReturnAddress and ReturnsPopPC: each condition both ways. -/
theorem witness_each_condition_both_ways (cc : Cond) :
    ∃ s t : State, s.cond cc = true ∧ t.cond cc = false := by
  cases cc
  case nz | nc | po | p =>
    exact ⟨{ State.reset with flags := ⟨false, false, false, false, false⟩ },
      { State.reset with flags := ⟨true, true, true, true, true⟩ }, rfl, rfl⟩
  case z | c | pe | m =>
    exact ⟨{ State.reset with flags := ⟨true, true, true, true, true⟩ },
      { State.reset with flags := ⟨false, false, false, false, false⟩ }, rfl, rfl⟩

/-- CMA writes no flag; INX no flag; STC only CY; INR all but CY. -/
theorem witness_FlagFrame :
    (∃ t, exec .cma busy = .next t) ∧ flagsWritten .cma = ⟨false, false, false, false, false⟩
      ∧ flagsWritten .stc = ⟨false, false, false, false, true⟩
      ∧ flagsWritten .inrM = ⟨true, true, true, true, false⟩ :=
  ⟨⟨_, rfl⟩, rfl, rfl, rfl⟩

theorem witness_RegisterFrame : (∃ t, exec .inxB busy = .next t) ∧ Reg8.h ∉ destRegs .inxB :=
  ⟨⟨_, rfl⟩, by decide⟩

/-- A push with SP wrapping, and an OUT to another port. -/
theorem witness_MemoryFrame :
    (∃ t, exec .pushB busy = .next t) ∧ (0x0001#16 : Word) ∉ storedTo .pushB busy
      ∧ (∃ t, exec (.outPort 0xFF) busy = .next t) ∧ Instr.outPort 0xFF ≠ .outPort 0x00 :=
  ⟨⟨_, rfl⟩, by decide, ⟨_, rfl⟩, by decide⟩

/-- The two boundary cases of a conditional call: taken it stores two bytes, untaken none. -/
theorem witness_MemoryFrame_conditional :
    storedTo (.cz 0x1234) busy = [0x0000, 0xFFFF] ∧ storedTo (.cnz 0x1234) busy = [] := by decide

/-- Each clause: an untaken call keeps SP and PC; a halted core stays halted; HLT and the fail-stop change `halted`,
the fail-stop `illegal`. -/
theorem witness_PointerAndStatusFrame :
    (∃ t, exec (.cnz 0x1234) busy = .next t ∧ writesSP (.cnz 0x1234) busy = false
        ∧ writesPC (.cnz 0x1234) busy = false)
      ∧ (∃ t, exec .nop { busy with halted := true } = .next t)
      ∧ (∃ t, exec .hlt busy = .next t ∧ t.halted ≠ busy.halted)
      ∧ (∃ t, exec .failStopCB busy = .next t ∧ t.halted ≠ busy.halted ∧ t.illegal ≠ busy.illegal) :=
  ⟨⟨_, rfl, by decide, by decide⟩, ⟨_, rfl⟩, ⟨_, rfl, by decide⟩, ⟨_, rfl, by decide, by decide⟩⟩

theorem witness_EveryStepKeepsTheInvariant : busy.Inv ∧ ∃ t, step busy = .next t := ⟨witness_invariant, _, rfl⟩

/-- The only move that clears `halted`. -/
theorem witness_HostResetValues :
    ∃ t, hostMove .reset { busy with halted := true } = .next t ∧ t.halted = false := ⟨_, rfl, rfl⟩

/-- A writeByte at 0x0101 modulo 65536; the next address is written by no move. -/
theorem witness_HaltedIsFinalUntilReset :
    { busy with halted := true }.halted = true ∧ HostMove.reset ∉ [HostMove.step, .writeByte 0x10101 0x00]
      ∧ ∀ address value, HostMove.writeByte address value ∈ [HostMove.step, .writeByte 0x10101 0x00] →
        ((0x0102#16).toNat : Int) ≠ address % 65536 :=
  ⟨by decide, by decide, by simp⟩

/-- Each clause at its byte: 76, a byte outside NOPALIAS, and one inside it (no halt). -/
theorem witness_HaltingHasTwoCauses :
    (busy.Inv ∧ busy.halted = false) ∧ (codeAt 0xFFFF [0x76]).readMem 0xFFFF = 0x76
      ∧ (codeAt 0xFFFF [0xFD]).readMem 0xFFFF = unassignedByte .uFD ∧ State.reset.nopAlias.has .uFD = false
      ∧ (codeAt 0xFFFF [0x08]).readMem 0xFFFF = unassignedByte .u08 ∧ State.reset.nopAlias.has .u08 = true :=
  ⟨⟨witness_invariant, by decide⟩, by decide, by decide, by decide, by decide, by decide⟩

end Sys2Proof.Tests
end

section
/-! The register frame (O50): which of the seven registers an operation, a meaning and an instruction may write. -/

namespace Sys2Proof

/-- The registers a write to an 8-bit operand may change: none for M (R96). -/
def Opnd8.regsWritten : Opnd8 → List Reg8
  | .reg r => [r]
  | .m => []

/-- The registers a write to a 16-bit operand may change: both halves of a pair, none for SP (R23). -/
def Pair.regsWritten : Pair → List Reg8
  | .bc => [.b, .c]
  | .de => [.d, .e]
  | .hl => [.h, .l]
  | .sp => []

/-- The registers an ALU operation may change: none for a compare (R167). -/
def AluOp.regsWritten : AluOp → List Reg8
  | .cmp => []
  | _ => [.a]

end Sys2Proof

namespace Sys2Proof.Machine

/-! ## Operations that write no register -/

@[simp] theorem State.reg_writeMem (s : State) (x : Word) (v : Byte) (r : Reg8) :
    (s.writeMem x v).reg r = s.reg r := by cases r <;> rfl

@[simp] theorem State.reg_writeMem16 (s : State) (x w : Word) (r : Reg8) :
    (s.writeMem16 x w).reg r = s.reg r := by cases r <;> rfl

@[simp] theorem State.reg_writePort (s : State) (p v : Byte) (r : Reg8) :
    (s.writePort p v).reg r = s.reg r := by cases r <;> rfl

@[simp] theorem State.reg_push16 (s : State) (w : Word) (r : Reg8) : (s.push16 w).reg r = s.reg r := by
  cases r <;> rfl

@[simp] theorem State.reg_pop16 (s : State) (r : Reg8) : s.pop16.2.reg r = s.reg r := by cases r <;> rfl

@[simp] theorem State.reg_jump (s : State) (t : Word) (r : Reg8) : (s.jump t).reg r = s.reg r := by
  cases r <;> rfl

@[simp] theorem State.reg_call (s : State) (t : Word) (r : Reg8) : (s.call t).reg r = s.reg r := by
  cases r <;> rfl

@[simp] theorem State.reg_ret (s : State) (r : Reg8) : s.ret.reg r = s.reg r := by cases r <;> rfl

@[simp] theorem State.reg_withFlags (s : State) (f : Flags) (r : Reg8) :
    { s with flags := f }.reg r = s.reg r := by cases r <;> rfl

@[simp] theorem State.reg_withHalted (s : State) (x : Bool) (r : Reg8) :
    { s with halted := x }.reg r = s.reg r := by cases r <;> rfl

@[simp] theorem State.reg_unassigned (s : State) (u : Config.Unassigned) (r : Reg8) :
    (s.unassigned u).reg r = s.reg r := by cases r <;> simp [State.reg]

@[simp] theorem reg_jumpIf (cc : Cond) (t : Word) (s : State) (r : Reg8) : (jumpIf cc t s).reg r = s.reg r := by
  unfold jumpIf; split <;> simp

@[simp] theorem reg_callIf (cc : Cond) (t : Word) (s : State) (r : Reg8) : (callIf cc t s).reg r = s.reg r := by
  unfold callIf; split <;> simp

@[simp] theorem reg_retIf (cc : Cond) (s : State) (r : Reg8) : (retIf cc s).reg r = s.reg r := by
  unfold retIf; split <;> simp

/-! ## Registers kept outside a list -/

/-- Every register that is not in `ds` has in `t` the value it has in `s`. -/
def KeepsRegsOutside (ds : List Reg8) (s t : State) : Prop := ∀ r, r ∉ ds → t.reg r = s.reg r

namespace KeepsRegsOutside

variable {ds ds' : List Reg8} {s t u : State}

theorem of_reg_eq (h : ∀ r, t.reg r = s.reg r) : KeepsRegsOutside ds s t := fun r _ => h r

theorem trans (h : KeepsRegsOutside ds s t) (h' : KeepsRegsOutside ds t u) : KeepsRegsOutside ds s u :=
  fun r hr => (h' r hr).trans (h r hr)

theorem mono (h : KeepsRegsOutside ds s t) (hds : ds ⊆ ds') : KeepsRegsOutside ds' s t :=
  fun r hr => h r fun hm => hr (hds hm)

theorem withFlags (h : KeepsRegsOutside ds s t) (f : Flags) : KeepsRegsOutside ds s { t with flags := f } :=
  h.trans (of_reg_eq (State.reg_withFlags t f))

theorem setReg (s : State) (r : Reg8) (v : Byte) : KeepsRegsOutside [r] s (s.setReg r v) :=
  fun _ hr => s.reg_setReg_other (List.ne_of_not_mem_cons hr) v

theorem setTwoRegs (s : State) (r r' : Reg8) (v v' : Byte) :
    KeepsRegsOutside [r, r'] s ((s.setReg r v).setReg r' v') :=
  ((setReg s r v).mono (by simp)).trans ((setReg _ r' v').mono (by simp))

theorem setPair (s : State) (p : Pair) (w : Word) : KeepsRegsOutside p.regsWritten s (s.setPair p w) := by
  cases p with
  | bc => exact setTwoRegs s .b .c (hi8 w) (lo8 w)
  | de => exact setTwoRegs s .d .e (hi8 w) (lo8 w)
  | hl => exact setTwoRegs s .h .l (hi8 w) (lo8 w)
  | sp => exact of_reg_eq fun r => s.reg_setPair_sp r w

theorem wr8 (s : State) (x : Opnd8) (v : Byte) : KeepsRegsOutside x.regsWritten s (s.wr8 x v) := by
  cases x with
  | reg r => exact setReg s r v
  | m => exact of_reg_eq (s.reg_writeMem _ v)

/-- The shape of every meaning that computes a new A with its flags. -/
theorem setAWithFlags (s : State) (v : Byte) (f : Flags) : KeepsRegsOutside [.a] s { s with a := v, flags := f } :=
  (setReg s .a v).withFlags f

theorem increment (x : Opnd8) (s : State) : KeepsRegsOutside x.regsWritten s (increment x s) :=
  (wr8 s x _).withFlags _

theorem decrement (x : Opnd8) (s : State) : KeepsRegsOutside x.regsWritten s (decrement x s) :=
  (wr8 s x _).withFlags _

theorem addToHL (w : Word) (s : State) : KeepsRegsOutside [.h, .l] s (addToHL w s) :=
  (setPair s .hl _).withFlags _

theorem aluEffect (f : AluOp) (v : Byte) (s : State) : KeepsRegsOutside f.regsWritten s (aluEffect f v s) := by
  cases f with
  | cmp => exact of_reg_eq (s.reg_withFlags _)
  | add | adc | sub | sbb | ana | xra | ora => exact setAWithFlags s _ _

theorem popPair (p : Pair) (s : State) : KeepsRegsOutside p.regsWritten s (popPair p s) :=
  (of_reg_eq s.reg_pop16).trans (setPair s.pop16.2 p _)

theorem popStatus (s : State) : KeepsRegsOutside [.a] s (popStatus s) :=
  (of_reg_eq s.reg_pop16).trans (setAWithFlags s.pop16.2 _ _)

theorem exchangeTop (s : State) : KeepsRegsOutside [.h, .l] s (exchangeTop s) :=
  (of_reg_eq (s.reg_writeMem16 _ _)).trans (setPair _ .hl _)

/-- XCHG writes HL, then DE (R112). -/
theorem exchangePairs (s : State) (w w' : Word) :
    KeepsRegsOutside [.d, .e, .h, .l] s ((s.setPair .hl w).setPair .de w') :=
  ((setPair s .hl w).mono (by decide)).trans ((setPair _ .de w').mono (by decide))

end KeepsRegsOutside

end Sys2Proof.Machine

namespace Sys2Proof.Claims

open Sys2Proof.Machine

/-! ## The destinations of each family that has any -/

@[simp] theorem destRegs_mov (dst r : Reg8) : destRegs (Instr.mov dst r) = [dst] := by
  cases dst <;> cases r <;> rfl

@[simp] theorem destRegs_movFromM (dst : Reg8) : destRegs (Instr.movFromM dst) = [dst] := by cases dst <;> rfl

@[simp] theorem destRegs_mvi (x : Opnd8) (d8 : Byte) : destRegs (Instr.mvi x d8) = x.regsWritten := by
  rcases x with ⟨_ | _⟩ | _ <;> rfl

@[simp] theorem destRegs_inr (x : Opnd8) : destRegs (Instr.inr x) = x.regsWritten := by
  rcases x with ⟨_ | _⟩ | _ <;> rfl

@[simp] theorem destRegs_dcr (x : Opnd8) : destRegs (Instr.dcr x) = x.regsWritten := by
  rcases x with ⟨_ | _⟩ | _ <;> rfl

@[simp] theorem destRegs_alu (f : AluOp) (x : Opnd8) : destRegs (Instr.alu f x) = f.regsWritten := by
  cases f <;> rcases x with ⟨_ | _⟩ | _ <;> rfl

@[simp] theorem destRegs_aluImm (f : AluOp) (d8 : Byte) : destRegs (Instr.aluImm f d8) = f.regsWritten := by
  cases f <;> rfl

@[simp] theorem destRegs_lxi (p : Pair) (w : Word) : destRegs (Instr.lxi p w) = p.regsWritten := by cases p <;> rfl

@[simp] theorem destRegs_inx (p : Pair) : destRegs (Instr.inx p) = p.regsWritten := by cases p <;> rfl

@[simp] theorem destRegs_dcx (p : Pair) : destRegs (Instr.dcx p) = p.regsWritten := by cases p <;> rfl

@[simp] theorem destRegs_dad (p : Pair) : destRegs (Instr.dad p) = [.h, .l] := by cases p <;> rfl

/-! ## Every instruction -/

/-- Every instruction completes and keeps each register that is not a destination: by family (R75), the meaning's own
frame against the family's destinations. -/
theorem exec_keepsRegsOutside (i : Instr) (s : State) :
    ∃ t, exec i s = .next t ∧ KeepsRegsOutside (destRegs i) s t := by
  cases i using Instr.by_family with
  | mov dst r => exact ⟨_, exec_mov dst r s, destRegs_mov dst r ▸ .setReg s dst _⟩
  | movFromM dst => exact ⟨_, exec_movFromM dst s, destRegs_movFromM dst ▸ .setReg s dst _⟩
  | mvi x d8 => exact ⟨_, exec_mvi x d8 s, destRegs_mvi x d8 ▸ .wr8 s x d8⟩
  | inr x => exact ⟨_, exec_inr x s, destRegs_inr x ▸ .increment x s⟩
  | dcr x => exact ⟨_, exec_dcr x s, destRegs_dcr x ▸ .decrement x s⟩
  | alu f x => exact ⟨_, exec_alu f x s, destRegs_alu f x ▸ .aluEffect f _ s⟩
  | aluImm f d8 => exact ⟨_, exec_aluImm f d8 s, destRegs_aluImm f d8 ▸ .aluEffect f d8 s⟩
  | lxi p w => exact ⟨_, exec_lxi p w s, destRegs_lxi p w ▸ .setPair s p w⟩
  | inx p => exact ⟨_, exec_inx p s, destRegs_inx p ▸ .setPair s p _⟩
  | dcx p => exact ⟨_, exec_dcx p s, destRegs_dcx p ▸ .setPair s p _⟩
  | dad p => exact ⟨_, exec_dad p s, destRegs_dad p ▸ .addToHL _ s⟩
  | popB => exact ⟨_, rfl, .popPair .bc s⟩
  | popD => exact ⟨_, rfl, .popPair .de s⟩
  | popH => exact ⟨_, rfl, .popPair .hl s⟩
  | popPSW => exact ⟨_, rfl, .popStatus s⟩
  | lhld a16 => exact ⟨_, rfl, .setPair s .hl _⟩
  | xthl => exact ⟨_, rfl, .exchangeTop s⟩
  | xchg => exact ⟨_, rfl, .exchangePairs s _ _⟩
  | lda _ | ldaxB | ldaxD | inPort _ => exact ⟨_, rfl, .setReg s .a _⟩
  | daa | rlc | rrc | ral | rar | cma => exact ⟨_, rfl, .setAWithFlags s _ _⟩
  | movToM r => exact ⟨_, exec_movToM r s, .of_reg_eq (s.reg_writeMem _ _)⟩
  | sta _ | staxB | staxD => exact ⟨_, rfl, .of_reg_eq (s.reg_writeMem _ _)⟩
  | shld a16 => exact ⟨_, rfl, .of_reg_eq (s.reg_writeMem16 a16 _)⟩
  | outPort p8 => exact ⟨_, rfl, .of_reg_eq (s.reg_writePort p8 _)⟩
  | pushB | pushD | pushH | pushPSW => exact ⟨_, rfl, .of_reg_eq (s.reg_push16 _)⟩
  | jmp _ | pchl => exact ⟨_, rfl, .of_reg_eq (s.reg_jump _)⟩
  | jccc cc w => exact ⟨_, exec_jccc cc w s, .of_reg_eq (reg_jumpIf cc w s)⟩
  | call a16 => exact ⟨_, rfl, .of_reg_eq (s.reg_call a16)⟩
  | cccc cc w => exact ⟨_, exec_cccc cc w s, .of_reg_eq (reg_callIf cc w s)⟩
  | rst n => exact ⟨_, exec_rst n s, .of_reg_eq (s.reg_call _)⟩
  | ret => exact ⟨_, rfl, .of_reg_eq s.reg_ret⟩
  | rccc cc => exact ⟨_, exec_rccc cc s, .of_reg_eq (reg_retIf cc s)⟩
  | sphl => exact ⟨_, rfl, .setPair s .sp _⟩
  | stc | cmc => exact ⟨_, rfl, .of_reg_eq (s.reg_withFlags _)⟩
  | hlt => exact ⟨_, rfl, .of_reg_eq (s.reg_withHalted true)⟩
  | nop | ei | di | rim | sim => exact ⟨s, rfl, .of_reg_eq fun _ => rfl⟩
  | nopAlias08 | nopAlias10 | nopAlias18 | nopAlias28 | nopAlias38
  | failStopCB | failStopD9 | failStopDD | failStopED | failStopFD =>
    exact ⟨_, rfl, .of_reg_eq (s.reg_unassigned _)⟩

/-- Settles O50: the one next state that `exec` can give is the one `exec_keepsRegsOutside` speaks of. -/
theorem registerFrame : Obligations.RegisterFrame := by
  intro i s t h
  obtain ⟨u, hu, hkeeps⟩ := exec_keepsRegsOutside i s
  obtain rfl : u = t := Host.Outcome.next.inj (hu.symm.trans h)
  exact hkeeps

end Sys2Proof.Claims
end

section
/-! What an instruction can do outside the seven registers and the flags, said once (`Effect`, `exec_effect`); the
invariant (O56, O57), the memory and port frame (O51) and the frame of SP, PC and the status bits (O52) follow from it. -/

namespace Sys2Proof.Machine

/-- `t` is `u` but for the seven registers and the flags. -/
structure SameButRegs (u t : State) : Prop where
  sp : t.sp = u.sp
  pc : t.pc = u.pc
  halted : t.halted = u.halted
  illegal : t.illegal = u.illegal
  mem : t.mem = u.mem
  io : t.io = u.io
  nopAlias : t.nopAlias = u.nopAlias

namespace SameButRegs

theorem withFlags (s : State) (f : Flags) : SameButRegs s { s with flags := f } := ⟨rfl, rfl, rfl, rfl, rfl, rfl, rfl⟩

/-- The shape of every meaning that computes a new A with its flags. -/
theorem setAWithFlags (s : State) (v : Byte) (f : Flags) : SameButRegs s { s with a := v, flags := f } :=
  ⟨rfl, rfl, rfl, rfl, rfl, rfl, rfl⟩

theorem setReg (s : State) (r : Reg8) (v : Byte) : SameButRegs s (s.setReg r v) := by constructor <;> simp

theorem setPair (s : State) {p : Pair} (hp : p ≠ .sp) (w : Word) : SameButRegs s (s.setPair p w) where
  sp := by
    cases p with
    | sp => exact absurd rfl hp
    | bc | de | hl => rfl
  pc := s.setPair_pc p w
  halted := s.setPair_halted p w
  illegal := s.setPair_illegal p w
  mem := s.setPair_mem p w
  io := s.setPair_io p w
  nopAlias := s.setPair_nopAlias p w

theorem exchangePairs (s : State) (w w' : Word) : SameButRegs s ((s.setPair .hl w).setPair .de w') :=
  ⟨rfl, rfl, rfl, rfl, rfl, rfl, rfl⟩

theorem addToHL (w : Word) (s : State) : SameButRegs s (addToHL w s) := ⟨rfl, rfl, rfl, rfl, rfl, rfl, rfl⟩

theorem aluEffect (f : AluOp) (v : Byte) (s : State) : SameButRegs s (aluEffect f v s) := by
  cases f with
  | cmp => exact withFlags s _
  | add | adc | sub | sbb | ana | xra | ora => exact setAWithFlags s _ _

theorem inv {u t : State} (h : SameButRegs u t) (hu : u.Inv) : t.Inv := hu.of_eq h.mem h.io h.halted h.illegal

end SameButRegs

end Sys2Proof.Machine

namespace Sys2Proof.Claims

open Sys2Proof.Machine

/-! ## The tables of the statements, by family -/

theorem storedTo_movToM (r : Reg8) (s : State) : storedTo (Instr.movToM r) s = [s.pair .hl] := by cases r <;> rfl

theorem storedTo_rst (n : Fin 8) (s : State) : storedTo (Instr.rst n) s = [s.sp - 1, s.sp - 2] := by
  fin_cases n <;> rfl

theorem storedTo_cccc (cc : Cond) (w : Word) (s : State) :
    storedTo (Instr.cccc cc w) s = if s.cond cc then [s.sp - 1, s.sp - 2] else [] := by cases cc <;> rfl

theorem writesSP_rst (n : Fin 8) (s : State) : writesSP (Instr.rst n) s = true := by fin_cases n <;> rfl

theorem writesSP_cccc (cc : Cond) (w : Word) (s : State) : writesSP (Instr.cccc cc w) s = s.cond cc := by
  cases cc <;> rfl

theorem writesSP_rccc (cc : Cond) (s : State) : writesSP (Instr.rccc cc) s = s.cond cc := by cases cc <;> rfl

theorem writesPC_rst (n : Fin 8) (s : State) : writesPC (Instr.rst n) s = true := by fin_cases n <;> rfl

theorem writesPC_jccc (cc : Cond) (w : Word) (s : State) : writesPC (Instr.jccc cc w) s = s.cond cc := by
  cases cc <;> rfl

theorem writesPC_cccc (cc : Cond) (w : Word) (s : State) : writesPC (Instr.cccc cc w) s = s.cond cc := by
  cases cc <;> rfl

theorem writesPC_rccc (cc : Cond) (s : State) : writesPC (Instr.rccc cc) s = s.cond cc := by cases cc <;> rfl

/-! ## What an instruction can do -/

/-- What the instruction `i` may make of the state `s`: one of the shared operations, where the tables `storedTo`,
`writesSP`, `writesPC` and `unassignedOf` list it, and any change of registers and flags. -/
inductive Effect (i : Instr) (s : State) : State → Prop
  | keep : Effect i s s
  | regs {u t : State} : Effect i s u → SameButRegs u t → Effect i s t
  | store (x : Word) (v : Byte) : storedTo i s = [x] → Effect i s (s.writeMem x v)
  | store16 (x w : Word) : storedTo i s = [x, x + 1] → Effect i s (s.writeMem16 x w)
  | output (p v : Byte) : i = .outPort p → Effect i s (s.writePort p v)
  | setSP (w : Word) : writesSP i s = true → Effect i s { s with sp := w }
  | push (w : Word) : writesSP i s = true → storedTo i s = [s.sp - 1, s.sp - 2] → Effect i s (s.push16 w)
  | jump (w : Word) : writesPC i s = true → Effect i s (s.jump w)
  | call (w : Word) : writesSP i s = true → writesPC i s = true → storedTo i s = [s.sp - 1, s.sp - 2] →
      Effect i s (s.call w)
  | ret : writesSP i s = true → writesPC i s = true → Effect i s s.ret
  | halt : i = .hlt → Effect i s { s with halted := true }
  | failStop (u : Config.Unassigned) : unassignedOf i = some u → s.nopAlias.has u = false →
      Effect i s s.raiseIllegalOpcode

namespace Effect

variable {i : Instr} {s t : State}

theorem setReg (r : Reg8) (v : Byte) : Effect i s (s.setReg r v) := .regs .keep (.setReg s r v)

theorem withFlags (h : Effect i s t) (f : Flags) : Effect i s { t with flags := f } := .regs h (.withFlags t f)

theorem setAWithFlags (v : Byte) (f : Flags) : Effect i s { s with a := v, flags := f } :=
  .regs .keep (.setAWithFlags s v f)

theorem wr8 {x : Opnd8} (v : Byte) (hx : x = .m → storedTo i s = [s.pair .hl]) : Effect i s (s.wr8 x v) := by
  cases x with
  | reg r => exact .setReg r v
  | m => exact .store _ v (hx rfl)

theorem setPair {p : Pair} (w : Word) (hp : p = .sp → writesSP i s = true) : Effect i s (s.setPair p w) := by
  by_cases hsp : p = .sp
  · subst hsp; exact .setSP w (hp rfl)
  · exact .regs .keep (.setPair s hsp w)

theorem popPair {p : Pair} (hp : p ≠ .sp) (hsp : writesSP i s = true) : Effect i s (popPair p s) :=
  .regs (.setSP _ hsp) (.setPair s.pop16.2 hp _)

theorem popStatus (hsp : writesSP i s = true) : Effect i s (popStatus s) :=
  .regs (.setSP _ hsp) (.setAWithFlags s.pop16.2 _ _)

theorem exchangeTop (h : storedTo i s = [s.sp, s.sp + 1]) : Effect i s (exchangeTop s) :=
  .regs (.store16 s.sp _ h) (.setPair _ (by decide) _)

theorem jumpIf {cc : Cond} (w : Word) (hpc : writesPC i s = s.cond cc) : Effect i s (jumpIf cc w s) := by
  unfold Machine.jumpIf
  split
  · next hc => exact .jump w (hpc.trans hc)
  · exact .keep

theorem callIf {cc : Cond} (w : Word) (hsp : writesSP i s = s.cond cc) (hpc : writesPC i s = s.cond cc)
    (hst : storedTo i s = if s.cond cc then [s.sp - 1, s.sp - 2] else []) : Effect i s (callIf cc w s) := by
  unfold Machine.callIf
  split
  · next hc => exact .call w (hsp.trans hc) (hpc.trans hc) (hst.trans (if_pos hc))
  · exact .keep

theorem retIf {cc : Cond} (hsp : writesSP i s = s.cond cc) (hpc : writesPC i s = s.cond cc) :
    Effect i s (retIf cc s) := by
  unfold Machine.retIf
  split
  · next hc => exact .ret (hsp.trans hc) (hpc.trans hc)
  · exact .keep

theorem unassigned {u : Config.Unassigned} (hu : unassignedOf i = some u) : Effect i s (s.unassigned u) := by
  unfold State.unassigned
  split
  · exact .keep
  · next hn => exact .failStop u hu (Bool.eq_false_of_not_eq_true hn)

/-! ### What every effect keeps -/

theorem inv (h : Effect i s t) (hs : s.Inv) : t.Inv := by
  induction h with
  | keep => exact hs
  | regs _ hr ih => exact hr.inv ih
  | store x v _ => exact hs.writeMem x v
  | store16 x w _ => exact hs.writeMem16 x w
  | output p v _ => exact hs.writePort p v
  | push w _ _ => exact hs.push16 w
  | setSP _ _ | jump _ _ => exact hs.of_eq rfl rfl rfl rfl
  | call w _ _ _ => exact hs.call w
  | ret _ _ => exact hs.ret
  | halt _ => exact ⟨hs.mem_wf, hs.io_wf, fun _ => rfl⟩
  | failStop _ _ _ => exact hs.raiseIllegalOpcode

theorem readMem (h : Effect i s t) {x : Word} (hx : x ∉ storedTo i s) : t.readMem x = s.readMem x := by
  induction h with
  | regs _ hr ih => exact (congrArg (Memory.read · x.toNat) hr.mem).trans ih
  | store y v hst =>
    rw [hst, List.mem_singleton] at hx
    exact s.readMem_writeMem_other hx v
  | store16 y w hst =>
    rw [hst, List.mem_pair, not_or] at hx
    exact s.readMem_writeMem16_other w hx.1 hx.2
  | push w _ hst | call w _ _ hst =>
    rw [hst, List.mem_pair, not_or] at hx
    exact s.readMem_push16_other _ hx.1 hx.2
  | keep | output _ _ _ | setSP _ _ | jump _ _ | ret _ _ | halt _ | failStop _ _ _ => rfl

theorem readPort (h : Effect i s t) {p : Byte} (hp : i ≠ .outPort p) : t.readPort p = s.readPort p := by
  induction h with
  | regs _ hr ih => exact (congrArg (Memory.read · p.toNat) hr.io).trans ih
  | output q v hi => exact s.readPort_writePort_other (fun e : p = q => hp (e ▸ hi)) v
  | keep | store _ _ _ | store16 _ _ _ | setSP _ _ | push _ _ _ | jump _ _ | call _ _ _ _ | ret _ _ | halt _
  | failStop _ _ _ => rfl

theorem sp (h : Effect i s t) (hsp : writesSP i s = false) : t.sp = s.sp := by
  induction h with
  | regs _ hr ih => exact hr.sp.trans ih
  | setSP _ hw | push _ hw _ | call _ hw _ _ | ret hw _ => exact absurd hw (Bool.eq_false_iff.1 hsp)
  | keep | store _ _ _ | store16 _ _ _ | output _ _ _ | jump _ _ | halt _ | failStop _ _ _ => rfl

theorem pc (h : Effect i s t) (hpc : writesPC i s = false) : t.pc = s.pc := by
  induction h with
  | regs _ hr ih => exact hr.pc.trans ih
  | jump _ hw | call _ _ hw _ | ret _ hw => exact absurd hw (Bool.eq_false_iff.1 hpc)
  | keep | store _ _ _ | store16 _ _ _ | output _ _ _ | setSP _ _ | push _ _ _ | halt _ | failStop _ _ _ => rfl

theorem nopAlias (h : Effect i s t) : t.nopAlias = s.nopAlias := by
  induction h with
  | regs _ hr ih => exact hr.nopAlias.trans ih
  | keep | store _ _ _ | store16 _ _ _ | output _ _ _ | setSP _ _ | push _ _ _ | jump _ _ | call _ _ _ _ | ret _ _
  | halt _ | failStop _ _ _ => rfl

/-- The status bits stay, or HLT sets the first, or a fail-stop sets both (R31, R32). -/
theorem status (h : Effect i s t) :
    (t.halted = s.halted ∧ t.illegal = s.illegal)
    ∨ (i = .hlt ∧ t.halted = true ∧ t.illegal = s.illegal)
    ∨ ((∃ u, unassignedOf i = some u ∧ s.nopAlias.has u = false) ∧ t.halted = true ∧ t.illegal = true) := by
  induction h with
  | regs _ hr ih => rwa [hr.halted, hr.illegal]
  | halt hi => exact .inr (.inl ⟨hi, rfl, rfl⟩)
  | failStop u hu hn => exact .inr (.inr ⟨⟨u, hu, hn⟩, rfl, rfl⟩)
  | keep | store _ _ _ | store16 _ _ _ | output _ _ _ | setSP _ _ | push _ _ _ | jump _ _ | call _ _ _ _ | ret _ _ =>
    exact .inl ⟨rfl, rfl⟩

end Effect

/-- Every instruction completes, and its effect is one that the tables list for it: by family (R75). -/
theorem exec_effect (i : Instr) (s : State) : ∃ t, exec i s = .next t ∧ Effect i s t := by
  cases i using Instr.by_family with
  | mov dst r => exact ⟨_, exec_mov dst r s, .setReg dst _⟩
  | movFromM dst => exact ⟨_, exec_movFromM dst s, .setReg dst _⟩
  | movToM r => exact ⟨_, exec_movToM r s, .store _ _ (storedTo_movToM r s)⟩
  | mvi x d8 => exact ⟨_, exec_mvi x d8 s, .wr8 d8 (by rintro rfl; rfl)⟩
  | inr x => exact ⟨_, exec_inr x s, .withFlags (.wr8 _ (by rintro rfl; rfl)) _⟩
  | dcr x => exact ⟨_, exec_dcr x s, .withFlags (.wr8 _ (by rintro rfl; rfl)) _⟩
  | alu f x => exact ⟨_, exec_alu f x s, .regs .keep (.aluEffect f _ s)⟩
  | aluImm f d8 => exact ⟨_, exec_aluImm f d8 s, .regs .keep (.aluEffect f d8 s)⟩
  | lxi p w => exact ⟨_, exec_lxi p w s, .setPair w (by rintro rfl; rfl)⟩
  | inx p => exact ⟨_, exec_inx p s, .setPair _ (by rintro rfl; rfl)⟩
  | dcx p => exact ⟨_, exec_dcx p s, .setPair _ (by rintro rfl; rfl)⟩
  | dad p => exact ⟨_, exec_dad p s, .regs .keep (.addToHL _ s)⟩
  | lda _ | ldaxB | ldaxD | inPort _ => exact ⟨_, rfl, .setReg .a _⟩
  | daa | rlc | rrc | ral | rar | cma => exact ⟨_, rfl, .setAWithFlags _ _⟩
  | stc | cmc => exact ⟨_, rfl, .withFlags .keep _⟩
  | lhld _ => exact ⟨_, rfl, .setPair _ nofun⟩
  | xchg => exact ⟨_, rfl, .regs .keep (.exchangePairs s _ _)⟩
  | sta _ | staxB | staxD => exact ⟨_, rfl, .store _ _ rfl⟩
  | shld a16 => exact ⟨_, rfl, .store16 a16 _ rfl⟩
  | outPort p8 => exact ⟨_, rfl, .output p8 _ rfl⟩
  | pushB | pushD | pushH | pushPSW => exact ⟨_, rfl, .push _ rfl rfl⟩
  | popB | popD | popH => exact ⟨_, rfl, .popPair (by decide) rfl⟩
  | popPSW => exact ⟨_, rfl, .popStatus rfl⟩
  | xthl => exact ⟨_, rfl, .exchangeTop rfl⟩
  | sphl => exact ⟨_, rfl, .setSP _ rfl⟩
  | jmp _ | pchl => exact ⟨_, rfl, .jump _ rfl⟩
  | jccc cc w => exact ⟨_, exec_jccc cc w s, .jumpIf w (writesPC_jccc cc w s)⟩
  | call a16 => exact ⟨_, rfl, .call a16 rfl rfl rfl⟩
  | cccc cc w =>
    exact ⟨_, exec_cccc cc w s, .callIf w (writesSP_cccc cc w s) (writesPC_cccc cc w s) (storedTo_cccc cc w s)⟩
  | rst n => exact ⟨_, exec_rst n s, .call _ (writesSP_rst n s) (writesPC_rst n s) (storedTo_rst n s)⟩
  | ret => exact ⟨_, rfl, .ret rfl rfl⟩
  | rccc cc => exact ⟨_, exec_rccc cc s, .retIf (writesSP_rccc cc s) (writesPC_rccc cc s)⟩
  | hlt => exact ⟨_, rfl, .halt rfl⟩
  | nop | ei | di | rim | sim => exact ⟨s, rfl, .keep⟩
  | nopAlias08 | nopAlias10 | nopAlias18 | nopAlias28 | nopAlias38
  | failStopCB | failStopD9 | failStopDD | failStopED | failStopFD => exact ⟨_, rfl, .unassigned rfl⟩

/-- The effect of the one next state that `exec` can give. -/
theorem effect_of_exec {i : Instr} {s t : State} (h : exec i s = .next t) : Effect i s t := by
  obtain ⟨u, hu, heffect⟩ := exec_effect i s
  obtain rfl : u = t := Host.Outcome.next.inj (hu.symm.trans h)
  exact heffect

/-! ## The invariant -/

theorem step_halted {s : State} (h : s.halted = true) : step s = .next s := by simp [step, h]

/-- A step completes and keeps the invariant: halted it changes nothing, running it fetches and executes. -/
theorem step_completes_inv {s : State} (hs : s.Inv) : ∃ t, step s = .next t ∧ t.Inv := by
  cases hh : s.halted with
  | true => exact ⟨s, step_halted hh, hs⟩
  | false =>
    obtain ⟨t, ht, heffect⟩ := exec_effect s.fetchInstr.1 s.fetchInstr.2
    exact ⟨t, (step_running hh).trans ht, heffect.inv hs.fetchInstr⟩

/-- Settles O56: the next state of a step is unique, and `step_completes_inv` gives a legal one. -/
theorem everyStepKeepsTheInvariant : Obligations.EveryStepKeepsTheInvariant := by
  intro s t hs ht
  obtain ⟨u, hu, hinv⟩ := step_completes_inv hs
  obtain rfl : u = t := Host.Outcome.next.inj (hu.symm.trans ht)
  exact hinv

theorem hostReset_inv {s : State} (hs : s.Inv) : s.hostReset.Inv := ⟨hs.mem_wf, hs.io_wf, nofun⟩

theorem hostMove_completes_inv (m : HostMove) {s : State} (hs : s.Inv) : ∃ t, hostMove m s = .next t ∧ t.Inv := by
  cases m with
  | step => exact step_completes_inv hs
  | reset => exact ⟨_, rfl, hostReset_inv hs⟩
  | writeByte address value => exact ⟨_, rfl, hs.writeMem _ _⟩

theorem hostMoves_cons {m : HostMove} {s t : State} (h : hostMove m s = .next t) (ms : List HostMove) :
    hostMoves (m :: ms) s = hostMoves ms t := by simp only [hostMoves, h]

/-- Settles O57, by induction on the moves: the first one completes in a legal state. -/
theorem hostMovesKeepTheInvariant : Obligations.HostMovesKeepTheInvariant := by
  intro ms
  induction ms with
  | nil => exact fun s hs => ⟨s, rfl, hs⟩
  | cons m ms ih =>
    intro s hs
    obtain ⟨u, hu, hinv⟩ := hostMove_completes_inv m hs
    rw [hostMoves_cons hu]
    exact ih u hinv

/-! ## The frames -/

/-- Settles O51, by what every effect keeps of memory and ports. -/
theorem memoryFrame : Obligations.MemoryFrame := fun _ _ _ h =>
  ⟨fun _ hx => (effect_of_exec h).readMem hx, fun _ hp => (effect_of_exec h).readPort hp⟩

/-- Settles O52, by what every effect keeps of SP, PC and the parameter, and by the three cases of the status bits. -/
theorem pointerAndStatusFrame : Obligations.PointerAndStatusFrame := by
  intro i s t h
  have heffect := effect_of_exec h
  obtain ⟨hh, hl⟩ | ⟨hi, hh, hl⟩ | ⟨hu, hh, hl⟩ := heffect.status
  · exact ⟨heffect.sp, heffect.pc, hh.trans, fun hne => absurd hh hne, fun hne => absurd hl hne, heffect.nopAlias⟩
  · exact ⟨heffect.sp, heffect.pc, fun _ => hh, fun _ => .inl hi, fun hne => absurd hl hne, heffect.nopAlias⟩
  · exact ⟨heffect.sp, heffect.pc, fun _ => hh, fun _ => .inr hu, fun _ => ⟨hl, hh, hu⟩, heffect.nopAlias⟩

end Sys2Proof.Claims
end

section
/-! No instruction reads the status bits (O59): each meaning gives the same result, those two bits apart, when they are
set to any values before it. -/

namespace Sys2Proof.Machine

/-- The state with the two status bits replaced. -/
def State.withStatus (s : State) (x y : Bool) : State := { s with halted := x, illegal := y }

/-- A meaning that neither reads `halted` and `illegal` nor lets them reach anything else. -/
def IgnoresStatus (m : State → State) : Prop :=
  ∀ (s : State) (x y : Bool), (m (s.withStatus x y)).withStatus false false = (m s).withStatus false false

/-! ## Reads and writes of operands -/

@[simp] theorem State.reg_withStatus (s : State) (x y : Bool) (r : Reg8) : (s.withStatus x y).reg r = s.reg r := by
  cases r <;> rfl

@[simp] theorem State.pair_withStatus (s : State) (x y : Bool) (p : Pair) : (s.withStatus x y).pair p = s.pair p := by
  cases p <;> rfl

@[simp] theorem State.rd8_withStatus (s : State) (x y : Bool) (o : Opnd8) : (s.withStatus x y).rd8 o = s.rd8 o := by
  cases o with
  | reg r => exact s.reg_withStatus x y r
  | m => rfl

@[simp] theorem State.cond_withStatus (s : State) (x y : Bool) (cc : Cond) : (s.withStatus x y).cond cc = s.cond cc := by
  cases cc <;> rfl

theorem State.setReg_withStatus (s : State) (x y : Bool) (r : Reg8) (v : Byte) :
    (s.withStatus x y).setReg r v = (s.setReg r v).withStatus x y := by cases r <;> rfl

theorem State.setPair_withStatus (s : State) (x y : Bool) (p : Pair) (w : Word) :
    (s.withStatus x y).setPair p w = (s.setPair p w).withStatus x y := by cases p <;> rfl

theorem State.wr8_withStatus (s : State) (x y : Bool) (o : Opnd8) (v : Byte) :
    (s.withStatus x y).wr8 o v = (s.wr8 o v).withStatus x y := by
  cases o with
  | reg r => exact s.setReg_withStatus x y r v
  | m => rfl

namespace IgnoresStatus

/-- A meaning that commutes with setting the status bits ignores them. -/
theorem of_commutes {m : State → State} (h : ∀ s x y, m (s.withStatus x y) = (m s).withStatus x y) : IgnoresStatus m :=
  fun s x y => congrArg (·.withStatus false false) (h s x y)

theorem setReg (dst : Reg8) {v : State → Byte} (hv : ∀ s x y, v (s.withStatus x y) = v s) :
    IgnoresStatus fun s => s.setReg dst (v s) :=
  of_commutes fun s x y => by rw [hv, s.setReg_withStatus]

theorem setPair (p : Pair) {w : State → Word} (hw : ∀ s x y, w (s.withStatus x y) = w s) :
    IgnoresStatus fun s => s.setPair p (w s) :=
  of_commutes fun s x y => by rw [hw, s.setPair_withStatus]

theorem wr8 (o : Opnd8) {v : State → Byte} (hv : ∀ s x y, v (s.withStatus x y) = v s) :
    IgnoresStatus fun s => s.wr8 o (v s) :=
  of_commutes fun s x y => by rw [hv, s.wr8_withStatus]

theorem increment (o : Opnd8) : IgnoresStatus (increment o) :=
  of_commutes fun s x y => by
    simp only [Machine.increment, s.rd8_withStatus, s.wr8_withStatus]; rfl

theorem decrement (o : Opnd8) : IgnoresStatus (decrement o) :=
  of_commutes fun s x y => by
    simp only [Machine.decrement, s.rd8_withStatus, s.wr8_withStatus]; rfl

theorem aluEffect (f : AluOp) {v : State → Byte} (hv : ∀ s x y, v (s.withStatus x y) = v s) :
    IgnoresStatus fun s => aluEffect f (v s) s :=
  of_commutes fun s x y => by rw [hv]; cases f <;> rfl

theorem addToHL (p : Pair) : IgnoresStatus fun s => addToHL (s.pair p) s :=
  of_commutes fun s x y => by rw [s.pair_withStatus]; rfl

theorem jumpIf (cc : Cond) (t : Word) : IgnoresStatus (jumpIf cc t) :=
  of_commutes fun s x y => by simp only [Machine.jumpIf, s.cond_withStatus]; split <;> rfl

theorem callIf (cc : Cond) (t : Word) : IgnoresStatus (callIf cc t) :=
  of_commutes fun s x y => by simp only [Machine.callIf, s.cond_withStatus]; split <;> rfl

theorem retIf (cc : Cond) : IgnoresStatus (retIf cc) :=
  of_commutes fun s x y => by simp only [Machine.retIf, s.cond_withStatus]; split <;> rfl

/-- A fail-stop overwrites the two bits; a no-op keeps them. -/
theorem unassigned (u : Config.Unassigned) : IgnoresStatus fun s => s.unassigned u := by
  intro s x y
  dsimp only [State.unassigned, State.withStatus]
  split <;> rfl

end IgnoresStatus

/-- The meaning of every instruction is a function of the state that ignores the status bits: by family (R75). -/
theorem exec_ignoresStatus (i : Instr) : ∃ m, (∀ s, exec i s = .next (m s)) ∧ IgnoresStatus m := by
  cases i using Instr.by_family with
  | mov dst r => exact ⟨_, exec_mov dst r, .setReg dst (by simp)⟩
  | movFromM dst => exact ⟨_, exec_movFromM dst, .setReg dst (by simp)⟩
  | movToM r => exact ⟨_, exec_movToM r, .wr8 .m (by simp)⟩
  | mvi x d8 => exact ⟨_, exec_mvi x d8, .wr8 x (by simp)⟩
  | inr x => exact ⟨_, exec_inr x, .increment x⟩
  | dcr x => exact ⟨_, exec_dcr x, .decrement x⟩
  | alu f x => exact ⟨_, exec_alu f x, .aluEffect f (by simp)⟩
  | aluImm f d8 => exact ⟨_, exec_aluImm f d8, .aluEffect f (by simp)⟩
  | lxi p w => exact ⟨_, exec_lxi p w, .setPair p (by simp)⟩
  | inx p => exact ⟨_, exec_inx p, .setPair p (by simp)⟩
  | dcx p => exact ⟨_, exec_dcx p, .setPair p (by simp)⟩
  | dad p => exact ⟨_, exec_dad p, .addToHL p⟩
  | jccc cc w => exact ⟨_, exec_jccc cc w, .jumpIf cc w⟩
  | cccc cc w => exact ⟨_, exec_cccc cc w, .callIf cc w⟩
  | rccc cc => exact ⟨_, exec_rccc cc, .retIf cc⟩
  | rst n => exact ⟨_, exec_rst n, .of_commutes fun _ _ _ => rfl⟩
  | lda _ | ldaxB | ldaxD | inPort _ | lhld _ | xchg | sta _ | staxB | staxD | shld _ | outPort _
  | daa | rlc | rrc | ral | rar | cma | stc | cmc
  | pushB | pushD | pushH | pushPSW | popB | popD | popH | popPSW | xthl | sphl
  | jmp _ | pchl | call _ | ret | nop | ei | di | rim | sim =>
    exact ⟨_, fun _ => rfl, .of_commutes fun _ _ _ => rfl⟩
  | hlt => exact ⟨_, fun _ => rfl, fun _ _ _ => rfl⟩
  | nopAlias08 | nopAlias10 | nopAlias18 | nopAlias28 | nopAlias38
  | failStopCB | failStopD9 | failStopDD | failStopED | failStopFD =>
    exact ⟨_, fun _ => rfl, .unassigned _⟩

end Sys2Proof.Machine

namespace Sys2Proof.Claims

open Sys2Proof.Machine

/-- Settles O59: both runs are of the one meaning that `exec_ignoresStatus` gives. -/
theorem statusBitsAreNeverRead : Obligations.StatusBitsAreNeverRead := by
  intro i s x y
  obtain ⟨m, hm, hignores⟩ := exec_ignoresStatus i
  exact ⟨m s, m (s.withStatus x y), hm s, hm _, hignores s x y⟩

end Sys2Proof.Claims
end

section
/-! Operands, the packed status byte, the reset state and the host's reset (O7, O9, O53, O54). -/

namespace Sys2Proof.Machine

/-! ## The packed status byte -/

theorem packPSW_toNat (f : Flags) :
    (packPSW f).toNat = 128 * f.s.toNat + 64 * f.z.toNat + 16 * f.ac.toNat + 4 * f.p.toNat + 2 + f.cy.toNat := by
  have := f.s.toNat_le; have := f.z.toNat_le; have := f.ac.toNat_le; have := f.p.toNat_le; have := f.cy.toNat_le
  simp only [packPSW, BitVec.toNat_ofNat]
  omega

/-- A property of all flags is one of 32 values. -/
theorem flags_cases {P : Flags → Prop} (h : ∀ s z ac p cy, P ⟨s, z, ac, p, cy⟩) (f : Flags) : P f :=
  h f.s f.z f.ac f.p f.cy

/-- Bits 5 and 3 of the packed byte are 0 and bit 1 is 1 (R27). -/
theorem packPSW_fixedBits (f : Flags) : packPSW f &&& 0x2A#8 = 0x02#8 := by
  revert f; apply flags_cases; decide

theorem unpackPSW_packPSW (f : Flags) : unpackPSW (packPSW f) = f := by
  revert f; apply flags_cases; decide

theorem packPSW_unpackPSW (b : Byte) : packPSW (unpackPSW b) = (b &&& 0xD5#8) ||| 0x02#8 := by
  revert b
  apply byte_cases
  intro n
  fin_cases n <;> rfl

/-- A byte whose fixed bits are as packing leaves them is a packed byte. -/
theorem packPSW_unpackPSW_of_fixedBits {b : Byte} (h : b &&& 0x2A#8 = 0x02#8) : packPSW (unpackPSW b) = b := by
  calc packPSW (unpackPSW b)
      = (b &&& 0xD5#8) ||| (b &&& 0x2A#8) := by rw [packPSW_unpackPSW, h]
    _ = b &&& (0xD5#8 ||| 0x2A#8) := BitVec.and_or_distrib_left.symm
    _ = b := BitVec.and_allOnes

end Sys2Proof.Machine

namespace Sys2Proof.Claims

open Sys2Proof.Machine

/-- Settles O9, clause by clause. -/
theorem packedStatusByte : Obligations.PackedStatusByte :=
  ⟨fun f => ⟨packPSW_toNat f, packPSW_fixedBits f, unpackPSW_packPSW f⟩,
    fun b => ⟨⟨rfl, rfl, rfl, rfl, rfl⟩, packPSW_unpackPSW b, fun h => ⟨_, packPSW_unpackPSW_of_fixedBits h⟩⟩,
    by decide⟩

/-! ## Operands -/

/-- Settles O7: each code, read and write is its own arm of the model's definitions. -/
theorem operandCodesAndAccess : Obligations.OperandCodesAndAccess :=
  ⟨⟨rfl, rfl, rfl, rfl, rfl, rfl, rfl, rfl⟩, ⟨rfl, rfl, rfl, rfl⟩, fun _ _ _ =>
    ⟨⟨rfl, rfl, rfl, rfl, rfl, rfl, rfl, rfl⟩, ⟨rfl, rfl, rfl, rfl, rfl, rfl, rfl, rfl⟩, ⟨rfl, rfl, rfl, rfl⟩,
      ⟨rfl, rfl, rfl, rfl⟩⟩⟩

/-! ## Reset -/

theorem reset_inv : State.reset.Inv := ⟨rfl, rfl, nofun⟩

theorem defaultNopAlias_has (u : Config.Unassigned) :
    defaultNopAlias.has u = true ↔ u ∈ [.u08, .u10, .u18, .u28, .u38] := by cases u <;> decide

/-- Settles O53: the empty arrays read as zero everywhere. -/
theorem resetStateIsLegal : Obligations.ResetStateIsLegal :=
  ⟨reset_inv, fun x => Memory.read_nil x.toNat, fun p => Memory.read_nil p.toNat, rfl, defaultNopAlias_has⟩

/-- A move other than reset leaves a halted core halted: a step changes nothing, a writeByte only memory. -/
theorem hostMove_keeps_halted {m : HostMove} (hm : m ≠ .reset) {s t : State} (hs : s.halted = true)
    (h : hostMove m s = .next t) : t.halted = true := by
  cases m with
  | reset => exact absurd rfl hm
  | step =>
    obtain rfl : s = t := Host.Outcome.next.inj ((step_halted hs).symm.trans h)
    exact hs
  | writeByte address value =>
    obtain rfl : s.writeByte address value = t := Host.Outcome.next.inj h
    exact hs

/-- Settles O54: the values of R38, and that no other move leaves HALTED. -/
theorem hostResetValues : Obligations.HostResetValues := fun _ =>
  ⟨rfl, rfl, rfl, fun _ _ hs h ht =>
    by_contra fun hm => Bool.eq_false_iff.1 ht (hostMove_keeps_halted hm hs h)⟩

end Sys2Proof.Claims
end

section
/-! A step of a running core runs the instruction decoded at PC (O14). -/

namespace Sys2Proof.Machine

section

variable {s : State}

theorem State.fetchInstr_f1 {i : Instr} (h : opcodeMap (s.readMem s.pc) = .f1 i) :
    s.fetchInstr = (i, { s with pc := s.pc + 1 }) := by
  simp only [State.fetchInstr, State.fetch8, h, State.fetchOperands]

theorem State.fetchInstr_f2 {make : Byte → Instr} (h : opcodeMap (s.readMem s.pc) = .f2 make) :
    s.fetchInstr = (make (s.readMem (s.pc + 1)), { s with pc := s.pc + 2 }) := by
  rw [← word_add_one_add_one]
  simp only [State.fetchInstr, State.fetch8, h, State.fetchOperands]; rfl

theorem State.fetchInstr_f3 {make : Word → Instr} (h : opcodeMap (s.readMem s.pc) = .f3 make) :
    s.fetchInstr = (make (cat (s.readMem (s.pc + 2)) (s.readMem (s.pc + 1))), { s with pc := s.pc + 3 }) := by
  have hpc : s.pc + 3 = s.pc + 1 + 1 + 1 := by bv_omega
  rw [hpc, ← word_add_one_add_one]
  simp only [State.fetchInstr, State.fetch8, h, State.fetchOperands]; rfl

/-- A fetch gives what the decoder reads from the three bytes at PC, and moves PC past its encoding: by the format of
the opcode's entry in the map (R91, R72). -/
theorem State.fetchInstr_of_decode {i : Instr} {rest : List Byte}
    (h : decode [s.readMem s.pc, s.readMem (s.pc + 1), s.readMem (s.pc + 2)] = .instr i rest) :
    s.fetchInstr = (i, { s with pc := s.pc + BitVec.ofNat 16 (encode i).length }) := by
  have hencodes := opcodeMap_encodesAs (s.readMem s.pc)
  cases he : opcodeMap (s.readMem s.pc) with
  | f1 j =>
    rw [he] at hencodes
    obtain ⟨rfl, -⟩ := Decoded.instr.inj ((decode_f1 he _).symm.trans h)
    rw [State.fetchInstr_f1 he, show encode j = _ from hencodes]; rfl
  | f2 make =>
    rw [he] at hencodes
    obtain ⟨rfl, -⟩ := Decoded.instr.inj ((decode_f2 he _ _).symm.trans h)
    rw [State.fetchInstr_f2 he, hencodes]; rfl
  | f3 make =>
    rw [he] at hencodes
    obtain ⟨rfl, -⟩ := Decoded.instr.inj ((decode_f3 he _ _ _).symm.trans h)
    rw [State.fetchInstr_f3 he, hencodes]; rfl

end

end Sys2Proof.Machine

namespace Sys2Proof.Claims

open Sys2Proof.Machine

/-- Settles O14: a running core fetches, by `fetchInstr_of_decode`, and executes. -/
theorem stepRunsDecodedInstruction : Obligations.StepRunsDecodedInstruction := by
  intro s i rest hs h
  rw [step_running hs, State.fetchInstr_of_decode h]

end Sys2Proof.Claims
end

section
/-! Memory and ports as arrays of bytes (O10, O11): what every address and every port reads after a write; and that the
next step fetches from the memory so written (O16). -/

namespace Sys2Proof.Machine

/-! ## Reads after writes -/

section

variable {s : State}

theorem State.readMem_writeMem_same (hs : s.Inv) (x : Word) (v : Byte) : (s.writeMem x v).readMem x = v :=
  Memory.read_write_same v hs.mem_wf

theorem State.readPort_writePort_same (hs : s.Inv) (p v : Byte) : (s.writePort p v).readPort p = v :=
  Memory.read_write_same v hs.io_wf

/-- The second byte is stored at the other address, so it leaves the first alone. -/
theorem State.readMem_writeMem16_low (hs : s.Inv) (x w : Word) : (s.writeMem16 x w).readMem x = lo8 w :=
  (State.readMem_writeMem_other _ (word_succ_ne x).symm _).trans (State.readMem_writeMem_same hs x _)

theorem State.readMem_writeMem16_high (hs : s.Inv) (x w : Word) : (s.writeMem16 x w).readMem (x + 1) = hi8 w :=
  State.readMem_writeMem_same (hs.writeMem x _) (x + 1) _

theorem State.readMem16_writeMem16_same (hs : s.Inv) (x w : Word) : (s.writeMem16 x w).readMem16 x = w := by
  rw [State.readMem16, State.readMem_writeMem16_low hs, State.readMem_writeMem16_high hs, cat_hi8_lo8]

/-- The byte at every address after a store. -/
theorem State.readMem_writeMem (hs : s.Inv) (x : Word) (v : Byte) (y : Word) :
    (s.writeMem x v).readMem y = if y = x then v else s.readMem y := by
  split
  · next h => rw [h, State.readMem_writeMem_same hs]
  · next h => exact s.readMem_writeMem_other h v

/-- The address of a host's store is the integer modulo 65536 (R7). -/
theorem eq_trunc16_iff (y : Word) (n : Int) : y = trunc16 n ↔ (y.toNat : Int) = n % 65536 := by
  rw [← BitVec.toNat_inj, trunc16, BitVec.toNat_ofInt]
  omega

/-- The byte at every address after a host's store (R263). -/
theorem State.readMem_writeByte (hs : s.Inv) (address value : Int) (y : Word) :
    (s.writeByte address value).readMem y =
      if (y.toNat : Int) = address % 65536 then trunc8 value else s.readMem y :=
  (State.readMem_writeMem hs _ _ y).trans (if_congr (eq_trunc16_iff y address) rfl rfl)

end

end Sys2Proof.Machine

namespace Sys2Proof.Claims

open Sys2Proof.Machine

/-- Settles O10: the one-byte clauses are the rules above, and each two-byte access is two of them. -/
theorem memoryReadAfterWrite : Obligations.MemoryReadAfterWrite := fun s x v w hs =>
  ⟨⟨State.readMem_writeMem_same hs x v, fun _ hy => s.readMem_writeMem_other hy v, rfl⟩, rfl,
    State.readMem_writeMem16_low hs x w, State.readMem_writeMem16_high hs x w,
    fun _ hx hx1 => s.readMem_writeMem16_other w hx hx1, State.readMem16_writeMem16_same hs x w, rfl⟩

/-- Settles O11, clause by clause: memory and ports are two arrays. -/
theorem portReadAfterWrite : Obligations.PortReadAfterWrite := fun s p v hs =>
  ⟨State.readPort_writePort_same hs p v, fun _ hq => s.readPort_writePort_other hq v,
    fun x => s.readMem_writePort x p v, rfl⟩

/-! ## Fetching after a store -/

/-- A running core whose memory reads as `seen` runs the instruction that `seen` holds at PC. -/
theorem step_of_readMem_eq {t : State} {seen : Word → Byte} (hseen : ∀ y, t.readMem y = seen y)
    (ht : t.halted = false) {i : Instr} {rest : List Byte}
    (h : decode [seen t.pc, seen (t.pc + 1), seen (t.pc + 2)] = .instr i rest) :
    step t = exec i { t with pc := t.pc + BitVec.ofNat 16 (encode i).length } := by
  obtain rfl : t.readMem = seen := funext hseen
  exact stepRunsDecodedInstruction t i rest ht h

/-- Settles O16: each store says what memory then reads as, and moves neither PC nor `halted`. -/
theorem fetchSeesEveryStore : Obligations.FetchSeesEveryStore := fun _ _ _ hs hrun =>
  ⟨fun x v h => step_of_readMem_eq (State.readMem_writeMem hs x v) hrun h,
    fun address value h => step_of_readMem_eq (State.readMem_writeByte hs address value) hrun h⟩

end Sys2Proof.Claims
end

section
/-! The decoder and the encoder (O1 to O6): where the map of R74 puts each family of R75; what decoding does, said once,
by the number of operand bytes that an entry asks for; and that the two are inverse to one another. -/

namespace Sys2Proof

/-! ## The map at the field layouts of each family (R71, R75) -/

theorem opcodeMap_mov (dst r : Reg8) : opcodeMap (byte233 0b01 dst.code r.code) = .f1 (Instr.mov dst r) := by
  cases dst <;> cases r <;> rfl

theorem opcodeMap_movFromM (dst : Reg8) : opcodeMap (byte233 0b01 dst.code 0b110) = .f1 (Instr.movFromM dst) := by
  cases dst <;> rfl

theorem opcodeMap_movToM (r : Reg8) : opcodeMap (byte233 0b01 0b110 r.code) = .f1 (Instr.movToM r) := by
  cases r <;> rfl

theorem opcodeMap_mvi (x : Opnd8) : opcodeMap (byte233 0b00 x.code 0b110) = .f2 (Instr.mvi x) := by
  rcases x with ⟨_ | _⟩ | _ <;> rfl

theorem opcodeMap_inr (x : Opnd8) : opcodeMap (byte233 0b00 x.code 0b100) = .f1 (Instr.inr x) := by
  rcases x with ⟨_ | _⟩ | _ <;> rfl

theorem opcodeMap_dcr (x : Opnd8) : opcodeMap (byte233 0b00 x.code 0b101) = .f1 (Instr.dcr x) := by
  rcases x with ⟨_ | _⟩ | _ <;> rfl

theorem opcodeMap_alu (f : AluOp) (x : Opnd8) : opcodeMap (byte233 0b10 f.code x.code) = .f1 (Instr.alu f x) := by
  cases f <;> rcases x with ⟨_ | _⟩ | _ <;> rfl

theorem opcodeMap_aluImm (f : AluOp) : opcodeMap (byte233 0b11 f.code 0b110) = .f2 (Instr.aluImm f) := by
  cases f <;> rfl

theorem opcodeMap_lxi (p : Pair) : opcodeMap (byte224 0b00 p.code 0b0001) = .f3 (Instr.lxi p) := by
  cases p <;> rfl

theorem opcodeMap_inx (p : Pair) : opcodeMap (byte224 0b00 p.code 0b0011) = .f1 (Instr.inx p) := by
  cases p <;> rfl

theorem opcodeMap_dcx (p : Pair) : opcodeMap (byte224 0b00 p.code 0b1011) = .f1 (Instr.dcx p) := by
  cases p <;> rfl

theorem opcodeMap_dad (p : Pair) : opcodeMap (byte224 0b00 p.code 0b1001) = .f1 (Instr.dad p) := by
  cases p <;> rfl

theorem opcodeMap_jccc (cc : Cond) : opcodeMap (byte233 0b11 cc.code 0b010) = .f3 (Instr.jccc cc) := by
  cases cc <;> rfl

theorem opcodeMap_cccc (cc : Cond) : opcodeMap (byte233 0b11 cc.code 0b100) = .f3 (Instr.cccc cc) := by
  cases cc <;> rfl

theorem opcodeMap_rccc (cc : Cond) : opcodeMap (byte233 0b11 cc.code 0b000) = .f1 (Instr.rccc cc) := by
  cases cc <;> rfl

theorem opcodeMap_rst (n : Fin 8) : opcodeMap (byte233 0b11 (.ofNat 3 n.val) 0b111) = .f1 (Instr.rst n) := by
  fin_cases n <;> rfl

/-! ## The formats: decoding an encoding -/

section

variable {op : Byte}

theorem encode_of_f1 {i : Instr} (h : opcodeMap op = .f1 i) : encode i = [op] :=
  show Entry.EncodesAs op (.f1 i) from h ▸ opcodeMap_encodesAs op

theorem encode_of_f2 {make : Byte → Instr} (h : opcodeMap op = .f2 make) (d : Byte) : encode (make d) = [op, d] :=
  (show Entry.EncodesAs op (.f2 make) from h ▸ opcodeMap_encodesAs op) d

theorem encode_of_f3 {make : Word → Instr} (h : opcodeMap op = .f3 make) (w : Word) :
    encode (make w) = [op, lo8 w, hi8 w] :=
  (show Entry.EncodesAs op (.f3 make) from h ▸ opcodeMap_encodesAs op) w

theorem decode_encode_f1 {i : Instr} (h : opcodeMap op = .f1 i) (rest : List Byte) :
    decode (encode i ++ rest) = .instr i rest := by
  rw [encode_of_f1 h]
  exact decode_f1 h rest

theorem decode_encode_f2 {make : Byte → Instr} (h : opcodeMap op = .f2 make) (d : Byte) (rest : List Byte) :
    decode (encode (make d) ++ rest) = .instr (make d) rest := by
  rw [encode_of_f2 h]
  exact decode_f2 h d rest

/-- The two operand bytes are put together again as they were taken apart (R72). -/
theorem decode_encode_f3 {make : Word → Instr} (h : opcodeMap op = .f3 make) (w : Word) (rest : List Byte) :
    decode (encode (make w) ++ rest) = .instr (make w) rest := by
  calc decode (encode (make w) ++ rest)
      = decode (op :: lo8 w :: hi8 w :: rest) := by rw [encode_of_f3 h]; rfl
    _ = .instr (make (cat (hi8 w) (lo8 w))) rest := decode_f3 h _ _ _
    _ = .instr (make w) rest := by rw [cat_hi8_lo8]

end

/-- Decoding inverts encoding: each family and each single instruction has its place in the map. -/
theorem decode_encode (i : Instr) (rest : List Byte) : decode (encode i ++ rest) = .instr i rest := by
  cases i using Instr.by_family with
  | mov dst r => exact decode_encode_f1 (opcodeMap_mov dst r) rest
  | movFromM dst => exact decode_encode_f1 (opcodeMap_movFromM dst) rest
  | movToM r => exact decode_encode_f1 (opcodeMap_movToM r) rest
  | mvi x d8 => exact decode_encode_f2 (opcodeMap_mvi x) d8 rest
  | inr x => exact decode_encode_f1 (opcodeMap_inr x) rest
  | dcr x => exact decode_encode_f1 (opcodeMap_dcr x) rest
  | alu f x => exact decode_encode_f1 (opcodeMap_alu f x) rest
  | aluImm f d8 => exact decode_encode_f2 (opcodeMap_aluImm f) d8 rest
  | lxi p w => exact decode_encode_f3 (opcodeMap_lxi p) w rest
  | inx p => exact decode_encode_f1 (opcodeMap_inx p) rest
  | dcx p => exact decode_encode_f1 (opcodeMap_dcx p) rest
  | dad p => exact decode_encode_f1 (opcodeMap_dad p) rest
  | jccc cc w => exact decode_encode_f3 (opcodeMap_jccc cc) w rest
  | cccc cc w => exact decode_encode_f3 (opcodeMap_cccc cc) w rest
  | rccc cc => exact decode_encode_f1 (opcodeMap_rccc cc) rest
  | rst n => exact decode_encode_f1 (opcodeMap_rst n) rest
  | shld a16 => exact decode_encode_f3 (op := 0x22) rfl a16 rest
  | lhld a16 => exact decode_encode_f3 (op := 0x2A) rfl a16 rest
  | sta a16 => exact decode_encode_f3 (op := 0x32) rfl a16 rest
  | lda a16 => exact decode_encode_f3 (op := 0x3A) rfl a16 rest
  | jmp a16 => exact decode_encode_f3 (op := 0xC3) rfl a16 rest
  | call a16 => exact decode_encode_f3 (op := 0xCD) rfl a16 rest
  | outPort p8 => exact decode_encode_f2 (op := 0xD3) rfl p8 rest
  | inPort p8 => exact decode_encode_f2 (op := 0xDB) rfl p8 rest
  | nop | staxB | staxD | ldaxB | ldaxD | rlc | rrc | ral | rar | rim | sim | daa | cma | stc | cmc | hlt
  | popB | popD | popH | popPSW | pushB | pushD | pushH | pushPSW | ret | pchl | sphl | xthl | xchg | di | ei
  | nopAlias08 | nopAlias10 | nopAlias18 | nopAlias28 | nopAlias38
  | failStopCB | failStopD9 | failStopDD | failStopED | failStopFD => rfl

/-! ## What decoding does -/

/-- The number of operand bytes an entry of the map asks for (R70). -/
def Entry.operandCount : Entry → Nat
  | .f1 _ => 0
  | .f2 _ => 1
  | .f3 _ => 2

section

variable {op : Byte} {operands : List Byte}

theorem decode_of_truncated (h : operands.length < (opcodeMap op).operandCount) :
    decode (op :: operands) = .reject (.missingOperand op) := by
  cases he : opcodeMap op <;> rw [he] at h
  case f1 => exact absurd h (Nat.not_lt_zero _)
  case f2 =>
    match operands, h with
    | [], _ => simp [decode, he, decodeEntry]
  case f3 =>
    match operands, h with
    | [], _ | [_], _ => simp [decode, he, decodeEntry]

/-- With enough bytes after the opcode, decoding takes the operands, and what it reads encodes as what it took. -/
theorem decode_of_complete (h : (opcodeMap op).operandCount ≤ operands.length) :
    ∃ i, decode (op :: operands) = .instr i (operands.drop (opcodeMap op).operandCount)
      ∧ encode i = op :: operands.take (opcodeMap op).operandCount := by
  cases he : opcodeMap op <;> rw [he] at h
  case f1 i => exact ⟨i, decode_f1 he _, encode_of_f1 he⟩
  case f2 make =>
    match operands, h with
    | d :: rest, _ => exact ⟨make d, decode_f2 he d rest, encode_of_f2 he d⟩
  case f3 make =>
    match operands, h with
    | lo :: hi :: rest, _ =>
      refine ⟨make (cat hi lo), decode_f3 he lo hi rest, ?_⟩
      rw [encode_of_f3 he, lo8_cat, hi8_cat]; rfl

/-- The one rejection of a string that has an opcode byte is truncation (R94). -/
theorem decode_cons_eq_reject_iff {e : DecodeError} :
    decode (op :: operands) = .reject e ↔
      operands.length < (opcodeMap op).operandCount ∧ e = .missingOperand op := by
  rcases Nat.lt_or_ge operands.length (opcodeMap op).operandCount with h | h
  · simp [decode_of_truncated h, h, eq_comm]
  · obtain ⟨i, hdecode, -⟩ := decode_of_complete h
    simp [hdecode, Nat.not_lt.2 h]

end

/-- Encoding inverts decoding. -/
theorem eq_encode_append_of_decode {bytes rest : List Byte} {i : Instr} (h : decode bytes = .instr i rest) :
    bytes = encode i ++ rest := by
  match bytes with
  | [] => cases h
  | op :: operands =>
    rcases Nat.lt_or_ge operands.length (opcodeMap op).operandCount with hshort | hcomplete
    · cases (decode_of_truncated hshort).symm.trans h
    · obtain ⟨j, hdecode, hencode⟩ := decode_of_complete hcomplete
      obtain ⟨rfl, rfl⟩ := Decoded.instr.inj (hdecode.symm.trans h)
      rw [hencode, List.cons_append, List.take_append_drop]

end Sys2Proof

namespace Sys2Proof.Claims

/-- Settles O4: by family, `decode_encode`. -/
theorem decodeOfEncodeIsTheInstruction : Obligations.DecodeOfEncodeIsTheInstruction := decode_encode

/-- Settles O5: by whether the operand bytes are all there. -/
theorem encodeOfDecodeIsTheBytes : Obligations.EncodeOfDecodeIsTheBytes := fun _ _ _ => eq_encode_append_of_decode

/-- Settles O2, line by line of R75: the single opcodes by the map's own entry, the families by their lemmas above. -/
theorem opcodeFieldsDecode : Obligations.OpcodeFieldsDecode :=
  ⟨-- Quadrant 00.
    ⟨decode_f1 rfl, decode_f1 rfl, decode_f1 rfl, decode_f1 rfl, decode_f1 rfl, decode_f1 rfl, decode_f1 rfl,
      decode_f1 rfl⟩,
    fun p => ⟨decode_f3 (opcodeMap_lxi p), decode_f1 (opcodeMap_dad p), decode_f1 (opcodeMap_inx p),
      decode_f1 (opcodeMap_dcx p)⟩,
    ⟨decode_f1 rfl, decode_f1 rfl, decode_f3 rfl, decode_f3 rfl, decode_f1 rfl, decode_f1 rfl, decode_f3 rfl,
      decode_f3 rfl⟩,
    fun x => ⟨decode_f1 (opcodeMap_inr x), decode_f1 (opcodeMap_dcr x), decode_f2 (opcodeMap_mvi x)⟩,
    ⟨decode_f1 rfl, decode_f1 rfl, decode_f1 rfl, decode_f1 rfl, decode_f1 rfl, decode_f1 rfl, decode_f1 rfl,
      decode_f1 rfl⟩,
    -- Quadrant 01.
    ⟨decode_f1 rfl, fun dst r => decode_f1 (opcodeMap_mov dst r),
      fun r => ⟨decode_f1 (opcodeMap_movFromM r), decode_f1 (opcodeMap_movToM r)⟩⟩,
    -- Quadrant 10.
    fun f x => decode_f1 (opcodeMap_alu f x),
    -- Quadrant 11.
    fun cc => ⟨decode_f1 (opcodeMap_rccc cc), decode_f3 (opcodeMap_jccc cc), decode_f3 (opcodeMap_cccc cc)⟩,
    ⟨decode_f1 rfl, decode_f1 rfl, decode_f1 rfl, decode_f1 rfl, decode_f1 rfl, decode_f1 rfl, decode_f1 rfl,
      decode_f1 rfl⟩,
    ⟨decode_f3 rfl, decode_f1 rfl, decode_f2 rfl, decode_f2 rfl, decode_f1 rfl, decode_f1 rfl, decode_f1 rfl,
      decode_f1 rfl⟩,
    ⟨decode_f1 rfl, decode_f1 rfl, decode_f1 rfl, decode_f1 rfl, decode_f3 rfl, decode_f1 rfl, decode_f1 rfl,
      decode_f1 rfl⟩,
    fun f => decode_f2 (opcodeMap_aluImm f),
    fun n => decode_f1 (opcodeMap_rst n)⟩

/-- Settles O1: MVI, ADD and HLT at their places in the map. -/
theorem confirmedBytesDecode : Obligations.ConfirmedBytesDecode :=
  ⟨decode_f2 (opcodeMap_mvi (.reg .a)) _ _, decode_f2 (opcodeMap_mvi (.reg .b)) _ _,
    decode_f1 (opcodeMap_alu .add (.reg .b)) _, decode_f1 rfl _⟩

/-- The formats of the map are the lists of R73. -/
theorem operandCount_opcodeMap (op : Byte) :
    (opcodeMap op).operandCount = if op ∈ length2 then 1 else if op ∈ length3 then 2 else 0 := by
  revert op
  apply byte_cases
  intro n
  fin_cases n <;> rfl

/-- Settles O3: the lists by inspection; decoding takes what the entry of the opcode asks for. -/
theorem lengthFromOpcodeByte : Obligations.LengthFromOpcodeByte := by
  refine ⟨rfl, rfl, by decide, by decide, by decide, fun op b2 b3 rest => ?_⟩
  have hcount := operandCount_opcodeMap op
  have hcomplete : (opcodeMap op).operandCount ≤ (b2 :: b3 :: rest).length := by
    rw [hcount, List.length_cons, List.length_cons]; split_ifs <;> omega
  obtain ⟨i, hdecode, hencode⟩ := decode_of_complete hcomplete
  refine ⟨i, ?_, ?_⟩
  · rw [hdecode, hcount]; split_ifs <;> rfl
  · rw [hencode, hcount]; split_ifs <;> rfl

/-- Settles O6: a string with an opcode byte is rejected for truncation only. -/
theorem decodeRejectsOnlyTruncation : Obligations.DecodeRejectsOnlyTruncation := by
  refine ⟨fun bytes => ?_, fun op rest => ?_, fun op rest e h => (decode_cons_eq_reject_iff.1 h).2⟩
  · cases bytes with
    | nil => exact ⟨fun _ => rfl, fun _ => rfl⟩
    | cons op operands => simp [decode_cons_eq_reject_iff]
  · rw [decode_cons_eq_reject_iff, operandCount_opcodeMap, and_iff_left rfl]

end Sys2Proof.Claims
end

section
/-! The engine: the conditions (O8), the stack operations (O12), a step of a halted core (O13, O58), and how a step of a
running core completes and halts (O15, O60). -/

namespace Sys2Proof.Machine

/-! ## The stack -/

section

variable {s : State}

theorem State.readMem_push16_low (hs : s.Inv) (w : Word) : (s.push16 w).readMem (s.sp - 2) = lo8 w := by
  rw [State.push16_eq]
  exact State.readMem_writeMem_same (hs.writeMem _ _) (s.sp - 2) (lo8 w)

/-- The low byte is stored at the other address, so it leaves the high byte alone. -/
theorem State.readMem_push16_high (hs : s.Inv) (w : Word) : (s.push16 w).readMem (s.sp - 1) = hi8 w := by
  rw [State.push16_eq]
  exact (State.readMem_writeMem_other _ (word_sub_one_ne_sub_two s.sp) _).trans
    (State.readMem_writeMem_same hs (s.sp - 1) (hi8 w))

/-- A pop reads back both bytes of the push before it (R99). -/
theorem State.pop16_push16 (hs : s.Inv) (w : Word) : (s.push16 w).pop16 = (w, { s.push16 w with sp := s.sp }) := by
  have hsp : (s.push16 w).sp = s.sp - 2 := word_sub_one_sub_one s.sp
  have hhigh : s.sp - 2 + 1 = s.sp - 1 := by bv_omega
  rw [State.pop16_eq, hsp, hhigh, State.readMem_push16_high hs, State.readMem_push16_low hs, cat_hi8_lo8,
    BitVec.sub_add_cancel]

end

end Sys2Proof.Machine

namespace Sys2Proof.Claims

open Sys2Proof.Machine

/-- Settles O8: each condition is its flag or the negation of its flag. -/
theorem conditionTable : Obligations.ConditionTable :=
  ⟨⟨rfl, rfl, rfl, rfl, rfl, rfl, rfl, rfl⟩, fun _ =>
    have hnot (b : Bool) : (!b) = true ↔ b = false := (Bool.not_eq_true' b).to_iff
    ⟨hnot _, .rfl, hnot _, .rfl, hnot _, .rfl, hnot _, .rfl⟩⟩

/-- Settles O12, by the rules of the stack above. -/
theorem pushThenPopRestores : Obligations.PushThenPopRestores := fun s w hs =>
  have hsp : (s.push16 w).sp = s.sp - 2 := word_sub_one_sub_one s.sp
  ⟨⟨hsp, State.readMem_push16_high hs w, hsp ▸ State.readMem_push16_low hs w,
      fun _ => s.readMem_push16_other w, rfl⟩,
    s.pop16_eq, State.pop16_push16 hs w⟩

/-! ## A halted core -/

/-- Settles O13: `step_halted`. -/
theorem stepWhileHaltedIsNoOp : Obligations.StepWhileHaltedIsNoOp := fun _ => step_halted

theorem run_succ {M : Host.Core} {s s' : M.State} (h : M.step s = .next s') (k : Nat) :
    Host.Core.run M (k + 1) s = Host.Core.run M k s' := by rw [Host.Core.run, h]

theorem run_halted {s : State} (h : s.halted = true) (k : Nat) : Host.Core.run core k s = .next s := by
  induction k with
  | zero => rfl
  | succ k ih => exact (run_succ (M := core) (step_halted h) k).trans ih

/-- A move other than reset changes a halted core in memory at most: a step nothing, a writeByte one byte. -/
theorem hostMove_halted {m : HostMove} (hm : m ≠ .reset) {s : State} (h : s.halted = true) :
    ∃ mem', hostMove m s = .next { s with mem := mem' } ∧
      ∀ x : Word, (∀ address value, m = .writeByte address value → (x.toNat : Int) ≠ address % 65536) →
        { s with mem := mem' }.readMem x = s.readMem x := by
  cases m with
  | reset => exact absurd rfl hm
  | step => exact ⟨s.mem, step_halted h, fun _ _ => rfl⟩
  | writeByte address value =>
    refine ⟨_, rfl, fun x hx => s.readMem_writeMem_other (fun e => ?_) _⟩
    exact hx address value rfl ((eq_trunc16_iff x address).1 e)

/-- Nor does any sequence of such moves: by induction, the state after the first one being halted still. -/
theorem hostMoves_halted {ms : List HostMove} (hms : HostMove.reset ∉ ms) {s : State} (h : s.halted = true) :
    ∃ mem', hostMoves ms s = .next { s with mem := mem' } ∧
      ∀ x : Word, (∀ address value, .writeByte address value ∈ ms → (x.toNat : Int) ≠ address % 65536) →
        { s with mem := mem' }.readMem x = s.readMem x := by
  induction ms generalizing s with
  | nil => exact ⟨s.mem, rfl, fun _ _ => rfl⟩
  | cons m ms ih =>
    rw [List.mem_cons, not_or] at hms
    obtain ⟨mem₁, hmove, hread₁⟩ := hostMove_halted (Ne.symm hms.1) h
    obtain ⟨mem₂, hmoves, hread₂⟩ := ih hms.2 (s := { s with mem := mem₁ }) h
    refine ⟨mem₂, (hostMoves_cons hmove ms).trans hmoves, fun x hx => ?_⟩
    exact (hread₂ x fun address value hmem => hx address value (.tail m hmem)).trans
      (hread₁ x fun address value hm => hx address value (hm ▸ .head ms))

/-- Settles O58: steps change nothing, the other moves only memory, and a reset clears `halted`. -/
theorem haltedIsFinalUntilReset : Obligations.HaltedIsFinalUntilReset := fun _ h =>
  ⟨run_halted h,
    fun _ hms =>
      let ⟨_, hmoves, hread⟩ := hostMoves_halted hms h
      ⟨_, hmoves, rfl, hread⟩,
    _, rfl, rfl⟩

/-! ## A running core -/

theorem exec_completes (i : Instr) (s : State) : ∃ t, exec i s = .next t :=
  let ⟨t, ht, _⟩ := exec_effect i s
  ⟨t, ht⟩

theorem step_completes (s : State) : ∃ t, step s = .next t := by
  cases h : s.halted with
  | true => exact ⟨s, step_halted h⟩
  | false => exact step_running h ▸ exec_completes _ _

/-- Settles O15: every instruction has an effect, and a step executes one or none. -/
theorem everyInstructionCompletes : Obligations.EveryInstructionCompletes := ⟨exec_completes, step_completes⟩

section

variable {s t : State}

/-- A one-byte instruction executes with PC just past its opcode (R91). -/
theorem step_of_f1 (hrun : s.halted = false) {i : Instr} (h : opcodeMap (s.readMem s.pc) = .f1 i) :
    step s = exec i { s with pc := s.pc + 1 } := by rw [step_running hrun, State.fetchInstr_f1 h]

theorem step_of_hlt_byte (hrun : s.halted = false) (h : s.readMem s.pc = 0x76) :
    step s = .next { s with pc := s.pc + 1, halted := true } :=
  step_of_f1 hrun (i := .hlt) (by rw [h]; rfl)

/-- Each unassigned byte has its own entry in the map, whose meaning is `unassigned` (R80). -/
theorem opcodeMap_unassignedByte (u : Config.Unassigned) :
    ∃ i, opcodeMap (unassignedByte u) = .f1 i ∧ ∀ s, exec i s = .next (s.unassigned u) := by
  cases u <;> exact ⟨_, rfl, fun _ => rfl⟩

theorem step_of_unassigned_byte (hrun : s.halted = false) {u : Config.Unassigned}
    (h : s.readMem s.pc = unassignedByte u) (hu : s.nopAlias.has u = false) :
    step s = .next { s with pc := s.pc + 1, halted := true, illegal := true } := by
  obtain ⟨i, hmap, hexec⟩ := opcodeMap_unassignedByte u
  rw [step_of_f1 hrun (h ▸ hmap), hexec, State.unassigned, if_neg (Bool.eq_false_iff.1 hu)]; rfl

/-- The opcode byte of a fetched instruction is the byte at PC (R91). -/
theorem encode_fetchInstr (s : State) : ∃ operands, encode s.fetchInstr.1 = s.readMem s.pc :: operands := by
  cases h : opcodeMap (s.readMem s.pc) with
  | f1 i => exact ⟨_, by rw [State.fetchInstr_f1 h, encode_of_f1 h]⟩
  | f2 make => exact ⟨_, by rw [State.fetchInstr_f2 h, encode_of_f2 h]⟩
  | f3 make => exact ⟨_, by rw [State.fetchInstr_f3 h, encode_of_f3 h]⟩

theorem readMem_pc_of_encode {op : Byte} (h : encode s.fetchInstr.1 = [op]) : s.readMem s.pc = op := by
  obtain ⟨operands, hfetch⟩ := encode_fetchInstr s
  exact (List.cons.inj (hfetch.symm.trans h)).1

theorem encode_of_unassignedOf {i : Instr} {u : Config.Unassigned} (h : unassignedOf i = some u) :
    encode i = [unassignedByte u] := by
  unfold unassignedOf at h
  split at h <;> cases h <;> rfl

/-- A step that halts a running core has fetched HLT or an unassigned byte outside NOPALIAS: no other effect touches
the status bits (R31). -/
theorem halting_byte (hrun : s.halted = false) (hstep : step s = .next t) (ht : t.halted = true) :
    s.readMem s.pc = 0x76 ∨ ∃ u, s.readMem s.pc = unassignedByte u ∧ s.nopAlias.has u = false := by
  have hfetch := s.fetchInstr_state
  have heffect := effect_of_exec ((step_running hrun).symm.trans hstep)
  obtain ⟨hh, -⟩ | ⟨hi, -, -⟩ | ⟨⟨u, hi, hu⟩, -, -⟩ := heffect.status
  · rw [ht, hfetch, hrun] at hh
    cases hh
  · exact .inl (readMem_pc_of_encode (by rw [hi]; rfl))
  · rw [hfetch] at hu
    exact .inr ⟨u, readMem_pc_of_encode (encode_of_unassignedOf hi), hu⟩

theorem illegal_of_running (hs : s.Inv) (hrun : s.halted = false) : s.illegal = false :=
  Bool.eq_false_iff.2 fun h => Bool.eq_false_iff.1 hrun (hs.illegal_halted h)

end

/-- Settles O60: the step is known at the bytes that halt, and `halting_byte` says there are no others. -/
theorem haltingHasTwoCauses : Obligations.HaltingHasTwoCauses := by
  refine ⟨rfl, rfl, fun s hs hrun => ?_⟩
  obtain ⟨t, hstep⟩ := step_completes s
  have hhlt := fun hbyte => Host.Outcome.next.inj (hstep.symm.trans (step_of_hlt_byte hrun hbyte))
  have hstop := fun u hbyte hu =>
    Host.Outcome.next.inj (hstep.symm.trans (step_of_unassigned_byte (u := u) hrun hbyte hu))
  refine ⟨t, hstep, ⟨halting_byte hrun hstep, ?_⟩, fun hbyte => ?_, fun u hbyte hu => ?_⟩
  · rintro (hbyte | ⟨u, hbyte, hu⟩)
    · rw [hhlt hbyte]
    · rw [hstop u hbyte hu]
  · rw [hhlt hbyte]
    simp [State.haltCause, State.endedWell, illegal_of_running hs hrun]
  · have hback : s.pc + 1 - 1 = s.pc := BitVec.add_sub_cancel s.pc 1
    rw [hstop u hbyte hu]
    exact ⟨rfl, rfl, rfl, hback, congrArg s.readMem hback⟩

end Sys2Proof.Claims
end

section
/-! The data transfer instructions (O17 to O23): the rules of two-byte operands, and each instruction's encoding by its
place in the map (R74) and its effect by its family's meaning. -/

namespace Sys2Proof

/-- A three-byte instruction carries the halves of its operand, low byte first (R72). -/
theorem encode_of_f3_cat {op : Byte} {make : Word → Instr} (h : opcodeMap op = .f3 make) (lo hi : Byte) :
    encode (make (cat hi lo)) = [op, lo, hi] := by
  rw [encode_of_f3 h, lo8_cat, hi8_cat]

end Sys2Proof

namespace Sys2Proof.Machine

/-! ## Pairs and two-byte stores, from a high and a low byte (R23, R55) -/

theorem State.setPair_bc_cat (s : State) (hi lo : Byte) : s.setPair .bc (cat hi lo) = { s with b := hi, c := lo } := by
  rw [State.setPair, hi8_cat, lo8_cat]

theorem State.setPair_de_cat (s : State) (hi lo : Byte) : s.setPair .de (cat hi lo) = { s with d := hi, e := lo } := by
  rw [State.setPair, hi8_cat, lo8_cat]

theorem State.setPair_hl_cat (s : State) (hi lo : Byte) : s.setPair .hl (cat hi lo) = { s with h := hi, l := lo } := by
  rw [State.setPair, hi8_cat, lo8_cat]

theorem State.writeMem16_cat (s : State) (x : Word) (hi lo : Byte) :
    s.writeMem16 x (cat hi lo) = (s.writeMem x lo).writeMem (x + 1) hi := by
  rw [State.writeMem16, hi8_cat, lo8_cat]

/-! ## The instructions that move two bytes -/

theorem exec_lhld (x : Word) (s : State) :
    exec (.lhld x) s = .next { s with l := s.readMem x, h := s.readMem (x + 1) } :=
  congrArg Host.Outcome.next (s.setPair_hl_cat (s.readMem (x + 1)) (s.readMem x))

theorem exec_shld (x : Word) (s : State) :
    exec (.shld x) s = .next ((s.writeMem x s.l).writeMem (x + 1) s.h) :=
  congrArg Host.Outcome.next (s.writeMem16_cat x s.h s.l)

/-- The two pair writes of an exchange do not overlap, and both values are read before them (R112). -/
theorem exec_xchg (s : State) : exec .xchg s = .next { s with d := s.h, e := s.l, h := s.d, l := s.e } := by
  have hexchange : (s.setPair .hl (cat s.d s.e)).setPair .de (cat s.h s.l)
      = { s with d := s.h, e := s.l, h := s.d, l := s.e } := by
    rw [State.setPair_hl_cat, State.setPair_de_cat]
  exact congrArg Host.Outcome.next hexchange

end Sys2Proof.Machine

namespace Sys2Proof.Claims

open Sys2Proof.Machine

/-- Settles O17: each form by its family, over all registers. -/
theorem movCopiesOneByte : Obligations.MovCopiesOneByte := fun s dst r =>
  ⟨⟨encode_of_f1 (opcodeMap_mov dst r), exec_mov dst r s⟩,
    ⟨encode_of_f1 (opcodeMap_movFromM dst), exec_movFromM dst s⟩,
    encode_of_f1 (opcodeMap_movToM r), exec_movToM r s⟩

/-- Settles O18: the family of MVI at a register and at M. -/
theorem moveImmediateByte : Obligations.MoveImmediateByte := fun s d8 =>
  ⟨fun r => ⟨encode_of_f2 (opcodeMap_mvi (.reg r)) d8, exec_mvi (.reg r) d8 s⟩,
    encode_of_f2 (opcodeMap_mvi .m) d8, exec_mvi .m d8 s⟩

/-- Settles O19: the family of LXI, its immediate taken apart for the three pairs of registers. -/
theorem loadPairImmediate : Obligations.LoadPairImmediate := fun s lo hi =>
  ⟨fun p => encode_of_f3_cat (opcodeMap_lxi p) lo hi,
    (exec_lxi .bc _ s).trans (congrArg _ (s.setPair_bc_cat hi lo)),
    (exec_lxi .de _ s).trans (congrArg _ (s.setPair_de_cat hi lo)),
    (exec_lxi .hl _ s).trans (congrArg _ (s.setPair_hl_cat hi lo)),
    exec_lxi .sp _ s⟩

/-- Settles O20: the effects are the meanings themselves (R106, R107). -/
theorem loadAndStoreADirect : Obligations.LoadAndStoreADirect := fun _ lo hi =>
  ⟨encode_of_f3_cat (op := 0x3A) rfl lo hi, encode_of_f3_cat (op := 0x32) rfl lo hi, rfl, rfl⟩

/-- Settles O21: `exec_lhld` and `exec_shld` at the operand's address. -/
theorem loadAndStoreHLDirect : Obligations.LoadAndStoreHLDirect := fun s lo hi =>
  ⟨encode_of_f3_cat (op := 0x2A) rfl lo hi, encode_of_f3_cat (op := 0x22) rfl lo hi,
    exec_lhld (cat hi lo) s, exec_shld (cat hi lo) s⟩

/-- Settles O22: the effects are the meanings themselves, a pair being its two registers (R23, R110, R111). -/
theorem loadAndStoreAByPair : Obligations.LoadAndStoreAByPair :=
  ⟨⟨rfl, rfl, rfl, rfl⟩, fun _ => ⟨rfl, rfl, rfl, rfl⟩⟩

/-- Settles O23: `exec_xchg`. -/
theorem exchangeDEAndHL : Obligations.ExchangeDEAndHL := ⟨rfl, exec_xchg⟩

end Sys2Proof.Claims
end

section
/-! The arithmetic instructions (O24 to O29): what the primitives of R120 to R122 and R160 compute, said once in the
vocabulary of the statements; then each instruction by its family's meaning. -/

namespace Sys2Proof.Machine

/-! ## Sums and differences as words -/

theorem trunc8_toNat (n : Int) : ((trunc8 n).toNat : Int) = n % 256 := by
  rw [trunc8, BitVec.toNat_ofInt]
  omega

theorem add8_one_fst (b : Byte) (f : Flags) : (add8 b 0x01#8 false f).1 = b + 1#8 := by
  apply BitVec.eq_of_toNat_eq
  simp

theorem sub8_one_fst (b : Byte) (f : Flags) : (sub8 b 0x01#8 false f).1 = b - 1#8 := by
  have hdiff : ((sub8 b 0x01#8 false f).1.toNat : Int) = ((b.toNat : Int) - 1 - 0) % 256 := trunc8_toNat _
  bv_omega

theorem word_add_one (w : Word) : w + 1 = BitVec.ofNat 16 (w.toNat + 1) := by
  apply BitVec.eq_of_toNat_eq
  simp

theorem word_sub_one (w : Word) : w - 1 = BitVec.ofInt 16 ((w.toNat : Int) - 1) := by
  apply BitVec.eq_of_toNat_eq
  have hone : (1 : Word).toNat = 1 := rfl
  rw [BitVec.toNat_sub, BitVec.toNat_ofInt, hone]
  omega

theorem addToHL_eq (w : Word) (s : State) :
    addToHL w s = { s.setPair .hl (s.pair .hl + w) with
      flags := { s.flags with cy := decide (65536 ≤ (s.pair .hl).toNat + w.toNat) } } := by
  rw [addToHL, BitVec.ofNat_add, BitVec.ofNat_toNat, BitVec.ofNat_toNat]; rfl

/-! ## Writing an operand back -/

/-- Writing back what an address held undoes a write there. -/
theorem Memory.write_write_read {size a : Nat} (ha : a < size) (v : Byte) {m : Memory} (hm : Memory.wf size m = true) :
    Memory.write (Memory.write m a v) a (Memory.read m a) = m := by
  have hv := Memory.write_wf v ha hm
  refine Memory.ext (Memory.write_wf _ ha hv) hm fun b => ?_
  by_cases hb : b = a
  · rw [hb, Memory.read_write_same _ hv]
  · rw [Memory.read_write_other hb, Memory.read_write_other hb]

theorem State.writeMem_writeMem_readMem {s : State} (hs : s.Inv) (x : Word) (v : Byte) :
    (s.writeMem x v).writeMem x (s.readMem x) = s :=
  congrArg (fun m => { s with mem := m }) (Memory.write_write_read x.isLt v hs.mem_wf)

theorem State.rd8_wr8_same {s : State} (hs : s.Inv) (x : Opnd8) (v : Byte) : (s.wr8 x v).rd8 x = v := by
  cases x with
  | reg r => exact s.reg_setReg_same r v
  | m => exact State.readMem_writeMem_same hs _ v

theorem State.wr8_wr8_rd8 {s : State} (hs : s.Inv) (x : Opnd8) (v : Byte) : (s.wr8 x v).wr8 x (s.rd8 x) = s := by
  cases x with
  | reg r => cases r <;> rfl
  | m => exact State.writeMem_writeMem_readMem hs _ v

/-! ## Opposite offsets of one operand -/

/-- The state with its flags replaced. -/
def State.withFlags (s : State) (f : Flags) : State := { s with flags := f }

theorem State.rd8_withFlags (s : State) (f : Flags) (x : Opnd8) : (s.withFlags f).rd8 x = s.rd8 x := by
  cases x with
  | reg r => exact s.reg_withFlags f r
  | m => rfl

theorem State.wr8_withFlags (s : State) (f : Flags) (x : Opnd8) (v : Byte) :
    (s.withFlags f).wr8 x v = (s.wr8 x v).withFlags f := by
  cases x with
  | reg r => cases r <;> rfl
  | m => rfl

/-- `t` is `s` with `d` added to the operand `x`, and with other flags, CY apart. -/
def OffsetBy (x : Opnd8) (d : Byte) (s t : State) : Prop :=
  ∃ f : Flags, f.cy = s.flags.cy ∧ t = (s.wr8 x (s.rd8 x + d)).withFlags f

theorem increment_offsetBy (x : Opnd8) (s : State) : OffsetBy x 1#8 s (increment x s) :=
  ⟨{ (add8 (s.rd8 x) 1#8 false s.flags).2 with cy := s.flags.cy }, rfl, by
    rw [← add8_one_fst _ s.flags]; rfl⟩

theorem decrement_offsetBy (x : Opnd8) (s : State) : OffsetBy x (-1#8) s (decrement x s) :=
  ⟨{ (sub8 (s.rd8 x) 1#8 false s.flags).2 with cy := s.flags.cy }, rfl, by
    rw [← BitVec.sub_eq_add_neg, ← sub8_one_fst _ s.flags]; rfl⟩

/-- Two opposite offsets cancel: the second reads what the first wrote, and writes the old operand back. -/
theorem OffsetBy.cancel {x : Opnd8} {d e : Byte} {s t u : State} (hs : s.Inv) (hst : OffsetBy x d s t)
    (htu : OffsetBy x e t u) (hde : d + e = 0#8) : u.flags.cy = s.flags.cy ∧ u.withFlags s.flags = s := by
  obtain ⟨f, hf, rfl⟩ := hst
  obtain ⟨g, hg, rfl⟩ := htu
  have hback : s.rd8 x + d + e = s.rd8 x := by rw [BitVec.add_assoc, hde, BitVec.add_zero]
  refine ⟨hg.trans hf, ?_⟩
  rw [State.rd8_withFlags, State.rd8_wr8_same hs, hback, State.wr8_withFlags, State.wr8_wr8_rd8 hs]
  rfl

end Sys2Proof.Machine

namespace Sys2Proof.Claims

open Sys2Proof.Machine

/-! ## The primitives -/

/-- Both count the same eight bits. -/
theorem ones_eq_popCount (v : Byte) : ones v = popCount v := by
  have hrange : List.range 8 = [0, 1, 2, 3, 4, 5, 6, 7] := rfl
  simp only [ones, ← List.countP_eq_length_filter, hrange, List.countP_cons, List.countP_nil, popCount, BitVec.getLsbD,
    Bool.toNat, Bool.cond_eq_ite]
  ac_rfl

theorem parityOf_iff (v : Byte) : parityOf v = true ↔ ones v % 2 = 0 := by
  rw [parityOf, beq_iff_eq, ones_eq_popCount]

theorem signZeroParity_szp (v : Byte) (f : Flags) : SignZeroParity v (szp v f) :=
  ⟨signOf_iff v, zeroOf_iff v, parityOf_iff v⟩

theorem isSum_add8 (a b : Byte) (k : Bool) (f : Flags) : IsSum a b k (add8 a b k f).1 (add8 a b k f).2 :=
  ⟨BitVec.toNat_ofNat _ _, decide_eq_true_iff, decide_eq_true_iff, signZeroParity_szp _ _⟩

theorem isDifference_sub8 (a b : Byte) (k : Bool) (f : Flags) :
    IsDifference a b k (sub8 a b k f).1 (sub8 a b k f).2 := by
  refine ⟨trunc8_toNat _, ?_, ?_, signZeroParity_szp _ _⟩
  · exact decide_eq_true_iff.trans (by omega)
  · exact decide_eq_true_iff.trans (by omega)

/-- Settles O24: the four lemmas above and the two flags that SZP keeps. -/
theorem aluPrimitivesCompute : Obligations.AluPrimitivesCompute := fun a b k f =>
  ⟨⟨signZeroParity_szp a f, szp_ac a f, szp_cy a f⟩, isSum_add8 a b k f, isDifference_sub8 a b k f,
    logic8_cy a f, logic8_ac a f, signZeroParity_szp a _⟩

/-! ## The instructions -/

/-- Settles O25: ADD and ADC, and their immediate forms, are `add8` on A and the operand. -/
theorem addAndAddWithCarry : Obligations.AddAndAddWithCarry := fun s x d8 =>
  ⟨⟨encode_of_f1 (opcodeMap_alu .add x), _, _, isSum_add8 _ _ _ s.flags, exec_alu .add x s⟩,
    ⟨encode_of_f1 (opcodeMap_alu .adc x), _, _, isSum_add8 _ _ _ s.flags, exec_alu .adc x s⟩,
    ⟨encode_of_f2 (opcodeMap_aluImm .add) d8, _, _, isSum_add8 _ _ _ s.flags, exec_aluImm .add d8 s⟩,
    encode_of_f2 (opcodeMap_aluImm .adc) d8, _, _, isSum_add8 _ _ _ s.flags, exec_aluImm .adc d8 s⟩

/-- Settles O26: SUB and SBB, and their immediate forms, are `sub8` on A and the operand. -/
theorem subtractAndSubtractWithBorrow : Obligations.SubtractAndSubtractWithBorrow := fun s x d8 =>
  ⟨⟨encode_of_f1 (opcodeMap_alu .sub x), _, _, isDifference_sub8 _ _ _ s.flags, exec_alu .sub x s⟩,
    ⟨encode_of_f1 (opcodeMap_alu .sbb x), _, _, isDifference_sub8 _ _ _ s.flags, exec_alu .sbb x s⟩,
    ⟨encode_of_f2 (opcodeMap_aluImm .sub) d8, _, _, isDifference_sub8 _ _ _ s.flags, exec_aluImm .sub d8 s⟩,
    encode_of_f2 (opcodeMap_aluImm .sbb) d8, _, _, isDifference_sub8 _ _ _ s.flags, exec_aluImm .sbb d8 s⟩

/-- Settles O27: `add8` and `sub8` by one, with the old CY put back. -/
theorem incrementAndDecrementKeepCarry : Obligations.IncrementAndDecrementKeepCarry := fun s x =>
  ⟨⟨encode_of_f1 (opcodeMap_inr x), _, _, isSum_add8 _ _ _ s.flags, exec_inr x s⟩,
    encode_of_f1 (opcodeMap_dcr x), _, _, isDifference_sub8 _ _ _ s.flags, exec_dcr x s⟩

theorem execAll_pair {i j : Instr} {s t u : State} (hi : exec i s = .next t) (hj : exec j t = .next u) :
    execAll [i, j] s = .next u := by simp only [execAll, hi, hj]

/-- Settles O28: INR and DCR are opposite offsets of the operand. -/
theorem incrementThenDecrementRestores : Obligations.IncrementThenDecrementRestores := fun s x hs =>
  ⟨⟨_, execAll_pair (exec_inr x s) (exec_dcr x _),
      (increment_offsetBy x s).cancel hs (decrement_offsetBy x _) (by decide)⟩,
    _, execAll_pair (exec_dcr x s) (exec_inr x _),
      (decrement_offsetBy x s).cancel hs (increment_offsetBy x _) (by decide)⟩

/-- Settles O29: the families of INX, DCX and DAD, each sum read as a number. -/
theorem pairIncrementDecrementAdd : Obligations.PairIncrementDecrementAdd := fun s p =>
  ⟨⟨encode_of_f1 (opcodeMap_inx p), word_add_one (s.pair p) ▸ exec_inx p s⟩,
    ⟨encode_of_f1 (opcodeMap_dcx p), word_sub_one (s.pair p) ▸ exec_dcx p s⟩,
    encode_of_f1 (opcodeMap_dad p), addToHL_eq (s.pair p) s ▸ exec_dad p s⟩

end Sys2Proof.Claims
end

section
/-! The decimal adjustment (O30, O31): the model's two corrections are those of the textbook conditions, and they turn the
binary sum of two packed numbers into their decimal sum. -/

namespace Sys2Proof.Machine

/-! ## The two corrections -/

/-- The high correction of DAA by the textbook conditions on the nibbles of A (R144). -/
def daaHighCorrection (a : Byte) (f : Flags) : Nat :=
  if f.cy = true ∨ a.toNat / 16 > 9 ∨ (a.toNat / 16 ≥ 9 ∧ a.toNat % 16 > 9) then 0x60 else 0

/-- After the low correction the high nibble exceeds 9 exactly when it did before, or was 9 and took the carry of a low
nibble above 9: a low nibble up to 9 gives no carry. -/
theorem daaCorrection_eq (a : Byte) (f : Flags) :
    daaCorrection a f = daaLowCorrection a f + daaHighCorrection a f := by
  have ha := a.isLt
  have hhigh : (a.toNat + daaLowCorrection a f) / 16 % 32 > 9 ↔
      a.toNat / 16 > 9 ∨ (a.toNat / 16 ≥ 9 ∧ a.toNat % 16 > 9) := by
    unfold daaLowCorrection
    split <;> omega
  simp only [daaCorrection, daaHighCorrection, hhigh]
  split <;> rfl

theorem daaLowCorrection_cases (a : Byte) (f : Flags) : daaLowCorrection a f = 0x06 ∨ daaLowCorrection a f = 0 :=
  ite_eq_or_eq _ _ _

theorem daaHighCorrection_cases (a : Byte) (f : Flags) : daaHighCorrection a f = 0x60 ∨ daaHighCorrection a f = 0 :=
  ite_eq_or_eq _ _ _

/-- The correction is a byte, so narrowing it loses nothing. -/
theorem daaCorrection_toNat (a : Byte) (f : Flags) :
    (BitVec.ofNat 8 (daaCorrection a f)).toNat = daaLowCorrection a f + daaHighCorrection a f := by
  have hlow := daaLowCorrection_cases a f
  have hhigh := daaHighCorrection_cases a f
  rw [daaCorrection_eq, BitVec.toNat_ofNat]
  omega

/-- The carry on entry or the carry out of the correction says whether 0x60 was added (R144, decision D6). -/
theorem carry_iff_daaHighCorrection (a : Byte) (f : Flags) :
    (f.cy = true ∨ 255 < a.toNat + daaLowCorrection a f + daaHighCorrection a f) ↔ daaHighCorrection a f = 0x60 := by
  cases hcy : f.cy with
  | true => simp [daaHighCorrection, hcy]
  | false =>
    have ha := a.isLt
    simp only [daaLowCorrection, daaHighCorrection, hcy, Bool.false_eq_true, false_or]
    split <;> split <;> omega

end Sys2Proof.Machine

namespace Sys2Proof.Claims

open Sys2Proof.Machine

/-! ## The adjusted byte and its flags -/

/-- DAA is the addition of the two corrections: the low one alone reaches the low nibble. -/
theorem decimalAdjust_adds_corrections (a : Byte) (f : Flags) :
    (decimalAdjust a f).1.toNat = (a.toNat + daaLowCorrection a f + daaHighCorrection a f) % 256
    ∧ ((decimalAdjust a f).2.cy = true ↔
        f.cy = true ∨ 255 < a.toNat + daaLowCorrection a f + daaHighCorrection a f)
    ∧ ((decimalAdjust a f).2.ac = true ↔ 15 < a.toNat % 16 + daaLowCorrection a f)
    ∧ SignZeroParity (decimalAdjust a f).1 (decimalAdjust a f).2 := by
  obtain ⟨hv, hcy, hac, hszp⟩ := isSum_add8 a (BitVec.ofNat 8 (daaCorrection a f)) false f
  rw [daaCorrection_toNat, Bool.toNat_false, Nat.add_zero] at hv hcy hac
  rw [← Nat.add_assoc] at hv hcy
  have hlow := daaLowCorrection_cases a f
  have hhigh := daaHighCorrection_cases a f
  exact ⟨hv, Bool.or_eq_true_iff.trans (or_congr_right hcy), hac.trans (by omega), hszp⟩

theorem decimalAdjust_cy_iff (a : Byte) (f : Flags) :
    (decimalAdjust a f).2.cy = true ↔ daaHighCorrection a f = 0x60 :=
  let ⟨_, hcy, _⟩ := decimalAdjust_adds_corrections a f
  hcy.trans (carry_iff_daaHighCorrection a f)

/-- Settles O30: the corrections of the model are those of the textbook conditions. -/
theorem decimalAdjustA : Obligations.DecimalAdjustA := by
  refine ⟨rfl, fun s => ?_⟩
  obtain ⟨hv, hcy, hac, hszp⟩ := decimalAdjust_adds_corrections s.a s.flags
  exact ⟨_, _, rfl, hv, hcy, decimalAdjust_cy_iff s.a s.flags, hac, hszp⟩

/-! ## Packed BCD -/

theorem bcd_toNat {n : Nat} (hn : n < 100) : (bcd n).toNat = 16 * (n / 10) + n % 10 := by
  rw [bcd, BitVec.toNat_ofNat]
  omega

section

variable {x y : Nat} {k : Bool} {v : Byte} {f : Flags}
variable (hx : x < 100) (hy : y < 100) (hsum : IsSum (bcd x) (bcd y) k v f)

include hx hy hsum

/-- The binary sum of two packed numbers by their tens and units: a carry leaves the low nibble as soon as the units
exceed 15, not 9. -/
theorem bcdSum_digits :
    v.toNat = (16 * (x / 10 + y / 10) + (x % 10 + y % 10 + k.toNat)) % 256
    ∧ (f.cy = true ↔ 255 < 16 * (x / 10 + y / 10) + (x % 10 + y % 10 + k.toNat))
    ∧ (f.ac = true ↔ 15 < x % 10 + y % 10 + k.toNat) := by
  obtain ⟨hv, hcy, hac, -⟩ := hsum
  rw [bcd_toNat hx, bcd_toNat hy] at hv hcy hac
  exact ⟨hv.trans (by omega), hcy.trans (by omega), hac.trans (by omega)⟩

/-- The low correction is made exactly when the units exceed 9: the nibble does too, or it has wrapped and left AC. -/
theorem daaLowCorrection_of_bcdSum :
    daaLowCorrection v f = if x % 10 + y % 10 + k.toNat > 9 then 0x06 else 0 := by
  obtain ⟨hv, -, hac⟩ := bcdSum_digits hx hy hsum
  have hk := k.toNat_le
  refine if_congr ?_ rfl rfl
  rw [hac, hv]
  omega

/-- The high correction is made exactly when the decimal sum has a third digit. -/
theorem daaHighCorrection_of_bcdSum :
    daaHighCorrection v f = if x + y + k.toNat > 99 then 0x60 else 0 := by
  obtain ⟨hv, hcy, -⟩ := bcdSum_digits hx hy hsum
  have hk := k.toNat_le
  have hdecimal : x + y + k.toNat = 10 * (x / 10 + y / 10) + (x % 10 + y % 10 + k.toNat) := by omega
  have htens : x / 10 + y / 10 ≤ 18 := by omega
  have hunits : x % 10 + y % 10 + k.toNat ≤ 19 := by omega
  refine if_congr ?_ rfl rfl
  rw [hcy, hv, hdecimal]
  generalize x / 10 + y / 10 = tens at htens
  generalize x % 10 + y % 10 + k.toNat = units at hunits
  omega

/-- Adjusting the binary sum of two packed numbers gives their decimal sum. -/
theorem decimalAdjust_of_bcdSum :
    (decimalAdjust v f).1 = bcd ((x + y + k.toNat) % 100)
    ∧ ((decimalAdjust v f).2.cy = true ↔ 99 < x + y + k.toNat) := by
  have hlow := daaLowCorrection_of_bcdSum hx hy hsum
  have hhigh := daaHighCorrection_of_bcdSum hx hy hsum
  constructor
  · obtain ⟨hadds, -⟩ := decimalAdjust_adds_corrections v f
    obtain ⟨hv, -, -⟩ := bcdSum_digits hx hy hsum
    have hk := k.toNat_le
    apply BitVec.eq_of_toNat_eq
    rw [hadds, hlow, hhigh, hv, bcd_toNat (Nat.mod_lt _ (by decide))]
    split <;> split <;> omega
  · rw [decimalAdjust_cy_iff, hhigh]
    simp

end

/-- Settles O31: ADC leaves the binary sum and its flags, and DAA adjusts it. -/
theorem decimalAdditionIsCorrect : Obligations.DecimalAdditionIsCorrect := by
  intro s x y hx hy ha hb
  have hsum := isSum_add8 s.a s.b s.flags.cy s.flags
  nth_rewrite 1 [ha, hb] at hsum
  obtain ⟨hv, hcy⟩ := decimalAdjust_of_bcdSum hx hy hsum
  exact ⟨_, hv ▸ execAll_pair rfl rfl, hcy⟩

end Sys2Proof.Claims
end

section
/-! The flag frame (O49): which of the five flags a meaning and an instruction may write. -/

namespace Sys2Proof.Machine

@[simp] theorem jumpIf_flags (cc : Cond) (t : Word) (s : State) : (jumpIf cc t s).flags = s.flags := by
  unfold jumpIf; split <;> rfl

@[simp] theorem callIf_flags (cc : Cond) (t : Word) (s : State) : (callIf cc t s).flags = s.flags := by
  unfold callIf; split <;> rfl

@[simp] theorem retIf_flags (cc : Cond) (s : State) : (retIf cc s).flags = s.flags := by
  unfold retIf; split <;> rfl

/-- Every flag that is not among `written` is in `g` as it is in `f`. -/
structure KeepsFlagsOutside (written f g : Flags) : Prop where
  s : written.s = false → g.s = f.s
  z : written.z = false → g.z = f.z
  ac : written.ac = false → g.ac = f.ac
  p : written.p = false → g.p = f.p
  cy : written.cy = false → g.cy = f.cy

namespace KeepsFlagsOutside

theorem of_eq {w f g : Flags} (h : g = f) : KeepsFlagsOutside w f g := by
  subst h; exact ⟨fun _ => rfl, fun _ => rfl, fun _ => rfl, fun _ => rfl, fun _ => rfl⟩

theorem all (f g : Flags) : KeepsFlagsOutside ⟨true, true, true, true, true⟩ f g := ⟨nofun, nofun, nofun, nofun, nofun⟩

theorem allButCarry {f g : Flags} (h : g.cy = f.cy) : KeepsFlagsOutside ⟨true, true, true, true, false⟩ f g :=
  ⟨nofun, nofun, nofun, nofun, fun _ => h⟩

theorem carryAlone (f : Flags) (x : Bool) : KeepsFlagsOutside ⟨false, false, false, false, true⟩ f { f with cy := x } :=
  ⟨fun _ => rfl, fun _ => rfl, fun _ => rfl, fun _ => rfl, nofun⟩

end KeepsFlagsOutside

end Sys2Proof.Machine

namespace Sys2Proof.Claims

open Sys2Proof.Machine

theorem flagsWritten_inr (x : Opnd8) : flagsWritten (Instr.inr x) = ⟨true, true, true, true, false⟩ := by
  rcases x with ⟨_ | _⟩ | _ <;> rfl

theorem flagsWritten_dcr (x : Opnd8) : flagsWritten (Instr.dcr x) = ⟨true, true, true, true, false⟩ := by
  rcases x with ⟨_ | _⟩ | _ <;> rfl

theorem flagsWritten_alu (f : AluOp) (x : Opnd8) : flagsWritten (Instr.alu f x) = ⟨true, true, true, true, true⟩ := by
  cases f <;> rcases x with ⟨_ | _⟩ | _ <;> rfl

theorem flagsWritten_aluImm (f : AluOp) (d8 : Byte) :
    flagsWritten (Instr.aluImm f d8) = ⟨true, true, true, true, true⟩ := by cases f <;> rfl

theorem flagsWritten_dad (p : Pair) : flagsWritten (Instr.dad p) = ⟨false, false, false, false, true⟩ := by
  cases p <;> rfl

/-- Every instruction completes and keeps each flag that the table of R30 does not give it: by family (R75). -/
theorem exec_keepsFlagsOutside (i : Instr) (s : State) :
    ∃ t, exec i s = .next t ∧ KeepsFlagsOutside (flagsWritten i) s.flags t.flags := by
  cases i using Instr.by_family with
  | alu f x => exact ⟨_, exec_alu f x s, flagsWritten_alu f x ▸ .all _ _⟩
  | aluImm f d8 => exact ⟨_, exec_aluImm f d8 s, flagsWritten_aluImm f d8 ▸ .all _ _⟩
  | daa | popPSW => exact ⟨_, rfl, .all _ _⟩
  | inr x => exact ⟨_, exec_inr x s, flagsWritten_inr x ▸ .allButCarry rfl⟩
  | dcr x => exact ⟨_, exec_dcr x s, flagsWritten_dcr x ▸ .allButCarry rfl⟩
  | dad p => exact ⟨_, exec_dad p s, flagsWritten_dad p ▸ .carryAlone s.flags _⟩
  | rlc | rrc | ral | rar | stc | cmc => exact ⟨_, rfl, .carryAlone s.flags _⟩
  | mov dst r => exact ⟨_, exec_mov dst r s, .of_eq (s.setReg_flags dst _)⟩
  | movFromM dst => exact ⟨_, exec_movFromM dst s, .of_eq (s.setReg_flags dst _)⟩
  | movToM r => exact ⟨_, exec_movToM r s, .of_eq (s.wr8_flags .m _)⟩
  | mvi x d8 => exact ⟨_, exec_mvi x d8 s, .of_eq (s.wr8_flags x d8)⟩
  | lxi p w => exact ⟨_, exec_lxi p w s, .of_eq (s.setPair_flags p w)⟩
  | inx p => exact ⟨_, exec_inx p s, .of_eq (s.setPair_flags p _)⟩
  | dcx p => exact ⟨_, exec_dcx p s, .of_eq (s.setPair_flags p _)⟩
  | jccc cc w => exact ⟨_, exec_jccc cc w s, .of_eq (jumpIf_flags cc w s)⟩
  | cccc cc w => exact ⟨_, exec_cccc cc w s, .of_eq (callIf_flags cc w s)⟩
  | rccc cc => exact ⟨_, exec_rccc cc s, .of_eq (retIf_flags cc s)⟩
  | rst n => exact ⟨_, exec_rst n s, .of_eq (s.call_flags _)⟩
  | lda _ | ldaxB | ldaxD | inPort _ | lhld _ | xchg | sta _ | staxB | staxD | shld _ | outPort _ | cma
  | pushB | pushD | pushH | pushPSW | popB | popD | popH | xthl | sphl
  | jmp _ | pchl | call _ | ret | nop | ei | di | rim | sim | hlt => exact ⟨_, rfl, .of_eq rfl⟩
  | nopAlias08 | nopAlias10 | nopAlias18 | nopAlias28 | nopAlias38
  | failStopCB | failStopD9 | failStopDD | failStopED | failStopFD =>
    exact ⟨_, rfl, .of_eq (s.unassigned_flags _)⟩

/-- Settles O49: the one next state that `exec` can give is the one `exec_keepsFlagsOutside` speaks of. -/
theorem flagFrame : Obligations.FlagFrame := by
  intro i s t h
  obtain ⟨u, hu, hs, hz, hac, hp, hcy⟩ := exec_keepsFlagsOutside i s
  obtain rfl : u = t := Host.Outcome.next.inj (hu.symm.trans h)
  exact ⟨hs, hz, hac, hp, hcy⟩

end Sys2Proof.Claims
end

section
/-! The logical, compare, rotate and carry instructions (O32 to O36): a rotate as one bit shifted into A at an end, and
as one turn of a ring of bits; then each instruction by its family's meaning. -/

namespace Sys2Proof.Machine

/-! ## A byte with a bit shifted in -/

/-- The byte one place up, with `b` in bit 0; bit 7 leaves (R173, R175). -/
def shiftUp (v : Byte) (b : Bool) : Byte := v.extractLsb' 0 7 ++ BitVec.ofBool b

/-- The byte one place down, with `b` in bit 7; bit 0 leaves (R174, R176). -/
def shiftDown (v : Byte) (b : Bool) : Byte := BitVec.ofBool b ++ v.extractLsb' 1 7

theorem getLsbD_seven_toNat (v : Byte) : (v.getLsbD 7).toNat = v.toNat / 128 := by
  have hv := v.isLt
  rw [BitVec.getLsbD, Nat.toNat_testBit]
  omega

theorem getLsbD_zero_toNat (v : Byte) : (v.getLsbD 0).toNat = v.toNat % 2 := by
  rw [BitVec.getLsbD, Nat.toNat_testBit, Nat.pow_zero, Nat.div_one]

theorem shiftUp_toNat (v : Byte) (b : Bool) : (shiftUp v b).toNat = (2 * v.toNat + b.toNat) % 256 := by
  have hb : b.toNat < 2 ^ 1 := b.toNat_lt
  rw [shiftUp, BitVec.toNat_append, BitVec.toNat_ofBool, ← Nat.shiftLeft_add_eq_or_of_lt hb, Nat.shiftLeft_eq,
    BitVec.extractLsb'_toNat, Nat.shiftRight_zero]
  omega

theorem shiftDown_toNat (v : Byte) (b : Bool) : (shiftDown v b).toNat = v.toNat / 2 + 128 * b.toNat := by
  have hv := v.isLt
  rw [shiftDown, BitVec.toNat_append, BitVec.toNat_ofBool, ← Nat.shiftLeft_add_eq_or_of_lt (BitVec.isLt _),
    Nat.shiftLeft_eq, BitVec.extractLsb'_toNat, Nat.shiftRight_eq_div_pow]
  omega

theorem shiftUp_getElem (v : Byte) (b : Bool) {i : Nat} (hi : i < 8) :
    (shiftUp v b)[i] = if i = 0 then b else v[i - 1] := by
  rw [shiftUp, BitVec.getElem_append]
  cases i with
  | zero => simp
  | succ k => simp [BitVec.getLsbD_eq_getElem (Nat.lt_of_succ_lt hi)]

theorem shiftUp_getLsbD_zero (v : Byte) (b : Bool) : (shiftUp v b).getLsbD 0 = b := shiftUp_getElem v b (by decide)

/-- Moving down undoes moving up, when the bit that left at the top comes back there. -/
theorem shiftDown_shiftUp (v : Byte) (b : Bool) : shiftDown (shiftUp v b) (v.getLsbD 7) = v := by
  have hv := v.isLt
  have hb := b.toNat_le
  apply BitVec.eq_of_toNat_eq
  rw [shiftDown_toNat, shiftUp_toNat, getLsbD_seven_toNat]
  omega

/-! ## Rings of bits -/

theorem rotateLeft_one_eq_shiftUp (v : Byte) : v.rotateLeft 1 = shiftUp v (v.getLsbD 7) := by
  ext i hi
  rw [shiftUp_getElem, BitVec.getElem_rotateLeft]
  cases i with
  | zero => rfl
  | succ k => rfl

theorem rotateRight_one_eq_shiftDown (v : Byte) : v.rotateRight 1 = shiftDown v (v.getLsbD 0) := by
  ext i hi
  rw [shiftDown, BitVec.getElem_append, BitVec.getElem_rotateRight]
  obtain h | rfl : i < 7 ∨ i = 7 := by omega
  · simp [h, BitVec.getLsbD_eq_getElem (show 1 + i < 8 by omega)]
  · simp

theorem rotateLeft_one_toNat (v : Byte) : (v.rotateLeft 1).toNat = (2 * v.toNat + v.toNat / 128) % 256 := by
  rw [rotateLeft_one_eq_shiftUp, shiftUp_toNat, getLsbD_seven_toNat]

theorem rotateRight_one_toNat (v : Byte) : (v.rotateRight 1).toNat = v.toNat / 2 + 128 * (v.toNat % 2) := by
  rw [rotateRight_one_eq_shiftDown, shiftDown_toNat, getLsbD_zero_toNat]

theorem rotateRight_rotateLeft_one :
    Function.LeftInverse (BitVec.rotateRight · 1) fun v : Byte => v.rotateLeft 1 := by
  intro v
  simp only [rotateRight_one_eq_shiftDown, rotateLeft_one_eq_shiftUp, shiftUp_getLsbD_zero, shiftDown_shiftUp]

/-- A left shift by seven places keeps bit 0 alone. -/
theorem and_one_shiftLeft_seven (v : Byte) : (v &&& 1) <<< 7 = v <<< 7 := by
  apply BitVec.eq_of_toNat_eq
  have hone : (1 : Byte).toNat = 1 := rfl
  rw [BitVec.toNat_shiftLeft, BitVec.toNat_shiftLeft, BitVec.toNat_and, hone, Nat.and_one_is_mod,
    Nat.shiftLeft_eq, Nat.shiftLeft_eq]
  omega

/-- CY above A is a ring of nine bits: bit 7 moves into CY, CY into bit 0. -/
theorem cons_rotateLeft_one (b : Bool) (v : Byte) :
    (BitVec.cons b v).rotateLeft 1 = BitVec.cons (v.getLsbD 7) (shiftUp v b) := by
  ext i hi
  rw [BitVec.getElem_rotateLeft, BitVec.getElem_cons]
  cases i with
  | zero => simp [BitVec.getElem_cons, shiftUp_getElem]
  | succ k =>
    obtain hk | rfl : k < 7 ∨ k = 7 := by omega
    · simp [BitVec.getElem_cons, shiftUp_getElem, hk.ne, show k ≠ 8 by omega]
    · simp [BitVec.getElem_cons]

theorem getMsbD_rotateLeft_one_iterate {w : Nat} (x : BitVec w) (n : Nat) {i : Nat} (hi : i < w) :
    ((BitVec.rotateLeft · 1)^[n] x).getMsbD i = x.getMsbD ((n + i) % w) := by
  induction n generalizing i with
  | zero => rw [Nat.zero_add, Nat.mod_eq_of_lt hi]; rfl
  | succ n ih =>
    have hnext : (1 + i) % w < w := Nat.mod_lt _ (by omega)
    rw [Function.iterate_succ_apply', BitVec.getMsbD_rotateLeft, decide_eq_true hi, Bool.true_and, ih hnext,
      Nat.add_mod_mod, Nat.add_assoc]

/-- A ring of `w` bits is back after `w` turns. -/
theorem rotateLeft_one_iterate_width {w : Nat} (x : BitVec w) : (BitVec.rotateLeft · 1)^[w] x = x := by
  apply BitVec.eq_of_getMsbD_eq
  intro i hi
  rw [getMsbD_rotateLeft_one_iterate x w hi, Nat.add_mod_left, Nat.mod_eq_of_lt hi]

/-! ## The rotates as turns of A and CY -/

/-- `RLC` on A and CY (R173). -/
def turnRlc (x : Byte × Bool) : Byte × Bool := (x.1.rotateLeft 1, x.1.getLsbD 7)

/-- `RRC` on A and CY (R174). -/
def turnRrc (x : Byte × Bool) : Byte × Bool := (x.1.rotateRight 1, x.1.getLsbD 0)

/-- `RAL` on A and CY (R175). -/
def turnRal (x : Byte × Bool) : Byte × Bool := (shiftUp x.1 x.2, x.1.getLsbD 7)

/-- `RAR` on A and CY (R176). -/
def turnRar (x : Byte × Bool) : Byte × Bool := (shiftDown x.1 x.2, x.1.getLsbD 0)

/-- `turn` applied to A and CY; nothing else changes. -/
def State.turned (s : State) (turn : Byte × Bool → Byte × Bool) : State :=
  rotateA (turn (s.a, s.flags.cy)).1 (turn (s.a, s.flags.cy)).2 s

theorem exec_rlc (s : State) : exec .rlc s = .next (s.turned turnRlc) := rfl

theorem exec_rrc (s : State) : exec .rrc s = .next (s.turned turnRrc) :=
  congrArg (fun v => Host.Outcome.next (rotateA (s.a >>> 1 ||| v) (s.a.getLsbD 0) s)) (and_one_shiftLeft_seven s.a)

theorem exec_ral (s : State) : exec .ral s = .next (s.turned turnRal) := rfl

theorem exec_rar (s : State) : exec .rar s = .next (s.turned turnRar) := rfl

/-- Eight turns bring a byte back. -/
theorem turnRlc_iterate_eight (x : Byte × Bool) : (turnRlc^[8] x).1 = x.1 := by
  have hring : Function.Semiconj Prod.fst turnRlc (BitVec.rotateLeft · 1) := fun _ => rfl
  exact (hring.iterate_right 8 x).trans (rotateLeft_one_iterate_width x.1)

/-- Turning right undoes turning left, so eight turns right undo eight turns left, which are the identity. -/
theorem turnRrc_iterate_eight (x : Byte × Bool) : (turnRrc^[8] x).1 = x.1 := by
  have hring : Function.Semiconj Prod.fst turnRrc (BitVec.rotateRight · 1) := fun _ => rfl
  calc (turnRrc^[8] x).1 = (BitVec.rotateRight · 1)^[8] x.1 := hring.iterate_right 8 x
    _ = (BitVec.rotateRight · 1)^[8] ((BitVec.rotateLeft · 1)^[8] x.1) := by rw [rotateLeft_one_iterate_width]
    _ = x.1 := rotateRight_rotateLeft_one.iterate 8 x.1

/-- Nine turns bring a byte and CY back. -/
theorem turnRal_iterate_nine (x : Byte × Bool) : turnRal^[9] x = x := by
  have hring : Function.Semiconj (fun y : Byte × Bool => BitVec.cons y.2 y.1) turnRal (BitVec.rotateLeft · 1) :=
    fun y => (cons_rotateLeft_one y.2 y.1).symm
  have hback := (hring.iterate_right 9 x).trans (rotateLeft_one_iterate_width _)
  refine Prod.ext ?_ ?_
  · simpa only [BitVec.setWidth_cons] using congrArg (BitVec.setWidth 8) hback
  · simpa only [BitVec.msb_cons] using congrArg BitVec.msb hback

/-- RAR undoes RAL, so nine of it undo nine, which are the identity. -/
theorem turnRar_iterate_nine (x : Byte × Bool) : turnRar^[9] x = x := by
  have hundo : Function.LeftInverse turnRar turnRal := fun y =>
    Prod.ext (shiftDown_shiftUp y.1 y.2) (shiftUp_getLsbD_zero y.1 y.2)
  calc turnRar^[9] x = turnRar^[9] (turnRal^[9] x) := by rw [turnRal_iterate_nine]
    _ = x := hundo.iterate 9 x

theorem State.turned_of_fst_eq {s : State} {turn : Byte × Bool → Byte × Bool}
    (h : (turn (s.a, s.flags.cy)).1 = s.a) :
    s.turned turn = { s with flags := { s.flags with cy := (turn (s.a, s.flags.cy)).2 } } := by
  rw [State.turned, h]; rfl

theorem State.turned_of_eq {s : State} {turn : Byte × Bool → Byte × Bool}
    (h : turn (s.a, s.flags.cy) = (s.a, s.flags.cy)) : s.turned turn = s := by
  rw [State.turned, h]; rfl

/-! ## Complement -/

theorem xor_ones_eq_sub (v : Byte) : v ^^^ 0xFF#8 = BitVec.ofNat 8 (255 - v.toNat) := by
  have hones : v ^^^ 0xFF#8 = ~~~v := BitVec.xor_allOnes
  apply BitVec.eq_of_toNat_eq
  rw [hones, BitVec.toNat_not, BitVec.toNat_ofNat]
  omega

end Sys2Proof.Machine

namespace Sys2Proof.Claims

open Sys2Proof.Machine

/-! ## Logical operations and compares -/

theorem isLogicFlags_logic8 (v : Byte) (f : Flags) : IsLogicFlags v (logic8 v f) :=
  ⟨logic8_cy v f, logic8_ac v f, signZeroParity_szp v _⟩

/-- Settles O32: each is `logic8` on the bitwise result, by the families of the ALU operations. -/
theorem logicalOperations : Obligations.LogicalOperations := fun s x d8 =>
  ⟨⟨encode_of_f1 (opcodeMap_alu .ana x), encode_of_f2 (opcodeMap_aluImm .ana) d8,
      ⟨_, isLogicFlags_logic8 _ s.flags, exec_alu .ana x s⟩,
      _, isLogicFlags_logic8 _ s.flags, exec_aluImm .ana d8 s⟩,
    ⟨encode_of_f1 (opcodeMap_alu .xra x), encode_of_f2 (opcodeMap_aluImm .xra) d8,
      ⟨_, isLogicFlags_logic8 _ s.flags, exec_alu .xra x s⟩,
      _, isLogicFlags_logic8 _ s.flags, exec_aluImm .xra d8 s⟩,
    encode_of_f1 (opcodeMap_alu .ora x), encode_of_f2 (opcodeMap_aluImm .ora) d8,
      ⟨_, isLogicFlags_logic8 _ s.flags, exec_alu .ora x s⟩,
      _, isLogicFlags_logic8 _ s.flags, exec_aluImm .ora d8 s⟩

/-- The difference of two bytes is zero exactly when they are equal, and borrows exactly when the first is below. -/
theorem IsDifference.zero_and_carry {a b v : Byte} {f : Flags} (h : IsDifference a b false v f) :
    (f.z = true ↔ a = b) ∧ (f.cy = true ↔ a.toNat < b.toNat) := by
  obtain ⟨hv, hcy, -, -, hz, -⟩ := h
  have ha := a.isLt
  have hb := b.isLt
  rw [Bool.toNat_false] at hv hcy
  exact ⟨by rw [hz, ← BitVec.toNat_inj]; omega, hcy⟩

/-- What a compare of A with `w` leaves, said as O33 says it of both forms. -/
theorem compareA_flags (w : Byte) (s : State) :
    ∃ v f, IsDifference s.a w false v f ∧ (f.z = true ↔ s.a = w) ∧ (f.cy = true ↔ s.a.toNat < w.toNat)
      ∧ compareA w s = { s with flags := f } :=
  have hdiff := isDifference_sub8 s.a w false s.flags
  have ⟨hz, hcy⟩ := hdiff.zero_and_carry
  ⟨_, _, hdiff, hz, hcy, rfl⟩

/-- Settles O33: the flags are those of `sub8`, whose value is dropped. -/
theorem compareWritesFlagsOnly : Obligations.CompareWritesFlagsOnly := by
  intro s x d8
  obtain ⟨v, f, hdiff, hz, hcy, hexec⟩ := compareA_flags (s.rd8 x) s
  obtain ⟨v', f', hdiff', hz', hcy', hexec'⟩ := compareA_flags d8 s
  exact ⟨⟨encode_of_f1 (opcodeMap_alu .cmp x), v, f, hdiff, hz, hcy, hexec ▸ exec_alu .cmp x s⟩,
    encode_of_f2 (opcodeMap_aluImm .cmp) d8, v', f', hdiff', hz', hcy', hexec' ▸ exec_aluImm .cmp d8 s⟩

/-! ## Rotates -/

/-- Settles O34: the two shifts as numbers, with the bit that enters. -/
theorem rotateByOneBit : Obligations.RotateByOneBit :=
  ⟨⟨rfl, rfl, rfl, rfl⟩, fun s =>
    ⟨⟨_, rotateLeft_one_toNat s.a, exec_rlc s⟩,
      ⟨_, rotateRight_one_toNat s.a, exec_rrc s⟩,
      ⟨_, shiftUp_toNat s.a _, exec_ral s⟩,
      _, shiftDown_toNat s.a _, exec_rar s⟩⟩

/-- A rotate run `n` times turns A and CY `n` times. -/
theorem execAll_replicate_turned {i : Instr} {turn : Byte × Bool → Byte × Bool}
    (hi : ∀ s, exec i s = .next (s.turned turn)) (n : Nat) (s : State) :
    execAll (List.replicate n i) s = .next (s.turned turn^[n]) := by
  induction n generalizing s with
  | zero => rfl
  | succ n ih =>
    simp only [List.replicate_succ, execAll, hi]
    exact ih (s.turned turn)

/-- Settles O35: eight turns of A's own ring and nine of the ring with CY are the identity. -/
theorem rotateRingsRestore : Obligations.RotateRingsRestore := fun s =>
  ⟨⟨_, State.turned_of_fst_eq (turnRlc_iterate_eight _) ▸ execAll_replicate_turned exec_rlc 8 s⟩,
    ⟨_, State.turned_of_fst_eq (turnRrc_iterate_eight _) ▸ execAll_replicate_turned exec_rrc 8 s⟩,
    (execAll_replicate_turned exec_ral 9 s).trans
      (congrArg Host.Outcome.next (State.turned_of_eq (turnRal_iterate_nine _))),
    (execAll_replicate_turned exec_rar 9 s).trans
      (congrArg Host.Outcome.next (State.turned_of_eq (turnRar_iterate_nine _)))⟩

/-! ## Complement and carry -/

/-- Settles O36: the meanings as they stand, the complement read as a number. -/
theorem complementAndCarryOperations : Obligations.ComplementAndCarryOperations :=
  ⟨⟨rfl, rfl, rfl⟩, fun s =>
    ⟨congrArg (fun v => Host.Outcome.next ({ s with a := v } : State)) (xor_ones_eq_sub s.a), rfl, rfl⟩⟩

end Sys2Proof.Claims
end

section
/-! The branch instructions (O37 to O41): a call as two pushed bytes and a jump, a return as two bytes popped, and what
each conditional family does when its condition holds and when it does not. -/

namespace Sys2Proof.Machine

/-- A call pushes the halves of PC, high byte first, and sets PC and nothing more (R192, R196). -/
theorem State.call_eq_pushed (s : State) (t : Word) :
    s.call t = { Claims.pushed s (hi8 s.pc) (lo8 s.pc) with pc := t } := by
  rw [State.call_eq, State.push16_eq, Claims.pushed]

theorem exec_call (t : Word) (s : State) :
    exec (.call t) s = .next { Claims.pushed s (hi8 s.pc) (lo8 s.pc) with pc := t } :=
  congrArg Host.Outcome.next (s.call_eq_pushed t)

theorem exec_ret (s : State) :
    exec .ret s = .next { s with pc := cat (s.readMem (s.sp + 1)) (s.readMem s.sp), sp := s.sp + 2 } :=
  congrArg Host.Outcome.next s.ret_eq

theorem exec_rst_pushed (n : Fin 8) (s : State) :
    exec (Instr.rst n) s = .next { Claims.pushed s (hi8 s.pc) (lo8 s.pc) with pc := rstTarget n } := by
  rw [exec_rst, State.call_eq_pushed]

/-! ## The conditional families, taken and not taken (R191, R193, R195) -/

section

variable {s : State} {cc : Cond}

theorem exec_jccc_taken (h : s.cond cc = true) (t : Word) : exec (Instr.jccc cc t) s = .next { s with pc := t } := by
  rw [exec_jccc, jumpIf, if_pos h, State.jump]

theorem exec_jccc_untaken (h : s.cond cc = false) (t : Word) : exec (Instr.jccc cc t) s = .next s := by
  rw [exec_jccc, jumpIf, if_neg (Bool.eq_false_iff.mp h)]

theorem exec_cccc_taken (h : s.cond cc = true) (t : Word) :
    exec (Instr.cccc cc t) s = .next { Claims.pushed s (hi8 s.pc) (lo8 s.pc) with pc := t } := by
  rw [exec_cccc, callIf, if_pos h, State.call_eq_pushed]

theorem exec_cccc_untaken (h : s.cond cc = false) (t : Word) : exec (Instr.cccc cc t) s = .next s := by
  rw [exec_cccc, callIf, if_neg (Bool.eq_false_iff.mp h)]

theorem exec_rccc_taken (h : s.cond cc = true) :
    exec (Instr.rccc cc) s
      = .next { s with pc := cat (s.readMem (s.sp + 1)) (s.readMem s.sp), sp := s.sp + 2 } := by
  rw [exec_rccc, retIf, if_pos h, State.ret_eq]

theorem exec_rccc_untaken (h : s.cond cc = false) : exec (Instr.rccc cc) s = .next s := by
  rw [exec_rccc, retIf, if_neg (Bool.eq_false_iff.mp h)]

end

end Sys2Proof.Machine

namespace Sys2Proof.Claims

open Sys2Proof.Machine

/-- Settles O37: JMP by its meaning, the conditional family on its condition. -/
theorem jumpsAndConditionalJumps : Obligations.JumpsAndConditionalJumps := fun _ cc lo hi =>
  ⟨⟨encode_of_f3_cat (op := 0xC3) rfl lo hi, rfl⟩,
    encode_of_f3_cat (opcodeMap_jccc cc) lo hi,
    fun h => exec_jccc_taken h (cat hi lo),
    fun h => exec_jccc_untaken h (cat hi lo)⟩

/-- Settles O38: a call as two pushed bytes and a jump, and the conditional family on its condition. -/
theorem callsPushTheReturnAddress : Obligations.CallsPushTheReturnAddress := fun s cc lo hi =>
  ⟨⟨encode_of_f3_cat (op := 0xCD) rfl lo hi, exec_call (cat hi lo) s⟩,
    encode_of_f3_cat (opcodeMap_cccc cc) lo hi,
    fun h => exec_cccc_taken h (cat hi lo),
    fun h => exec_cccc_untaken h (cat hi lo)⟩

/-- Settles O39: a return as two bytes popped, and the conditional family on its condition. -/
theorem returnsPopPC : Obligations.ReturnsPopPC := fun s cc =>
  ⟨⟨rfl, exec_ret s⟩, encode_of_f1 (opcodeMap_rccc cc), exec_rccc_taken, exec_rccc_untaken⟩

/-- Settles O40: a restart is a call to its target, which is eight times its number (R196). -/
theorem restartsCallLowMemory : Obligations.RestartsCallLowMemory := fun s n =>
  ⟨encode_of_f1 (opcodeMap_rst n), exec_rst_pushed n s⟩

/-- Settles O41: the effects are the meanings themselves, HL being its two registers (R197, R215). -/
theorem copyHLToPCOrSP : Obligations.CopyHLToPCOrSP := ⟨⟨rfl, rfl⟩, fun _ => ⟨rfl, rfl⟩⟩

end Sys2Proof.Claims
end

section
/-! The stack, port and control instructions (O42 to O48): pushes and pops as two bytes at SP, the status byte pushed
and popped, and what each unassigned byte does. -/

namespace Sys2Proof.Machine

/-! ## Pushes and pops, from a high and a low byte (R98, R99) -/

theorem State.push16_cat (s : State) (hi lo : Byte) : s.push16 (cat hi lo) = Claims.pushed s hi lo := by
  rw [State.push16_eq, hi8_cat, lo8_cat, Claims.pushed]

theorem popPair_eq (p : Pair) (s : State) :
    popPair p s = { s with sp := s.sp + 2 }.setPair p (cat (s.readMem (s.sp + 1)) (s.readMem s.sp)) := by
  rw [popPair, State.pop16_eq]

theorem popStatus_eq (s : State) :
    popStatus s =
      { s with flags := unpackPSW (s.readMem s.sp), a := s.readMem (s.sp + 1), sp := s.sp + 2 } := by
  rw [popStatus, State.pop16_eq, hi8_cat, lo8_cat]

/-- Both bytes come back, and unpacking the status byte gives the flags that were packed (R213). -/
theorem popStatus_pushed {s : State} (hs : s.Inv) :
    popStatus (Claims.pushed s s.a (packPSW s.flags))
      = { s with mem := (Claims.pushed s s.a (packPSW s.flags)).mem } := by
  rw [← State.push16_cat, popStatus, State.pop16_push16 hs, hi8_cat, lo8_cat, unpackPSW_packPSW]; rfl

/-- The bytes stored are HL's halves, and those loaded were read before the stores (R214). -/
theorem exchangeTop_eq (s : State) :
    exchangeTop s = { (s.writeMem s.sp s.l).writeMem (s.sp + 1) s.h with
      l := s.readMem s.sp
      h := s.readMem (s.sp + 1) } := by
  rw [exchangeTop, State.pair, State.writeMem16_cat, State.readMem16, State.setPair_hl_cat]

/-! ## The instructions of the stack, by their meanings -/

theorem exec_pushB (s : State) : exec .pushB s = .next (Claims.pushed s s.b s.c) :=
  congrArg Host.Outcome.next (s.push16_cat s.b s.c)

theorem exec_pushD (s : State) : exec .pushD s = .next (Claims.pushed s s.d s.e) :=
  congrArg Host.Outcome.next (s.push16_cat s.d s.e)

theorem exec_pushH (s : State) : exec .pushH s = .next (Claims.pushed s s.h s.l) :=
  congrArg Host.Outcome.next (s.push16_cat s.h s.l)

theorem exec_pushPSW (s : State) : exec .pushPSW s = .next (Claims.pushed s s.a (packPSW s.flags)) :=
  congrArg Host.Outcome.next (s.push16_cat s.a (packPSW s.flags))

theorem exec_popB (s : State) :
    exec .popB s = .next { s with c := s.readMem s.sp, b := s.readMem (s.sp + 1), sp := s.sp + 2 } :=
  congrArg Host.Outcome.next ((popPair_eq .bc s).trans (State.setPair_bc_cat _ _ _))

theorem exec_popD (s : State) :
    exec .popD s = .next { s with e := s.readMem s.sp, d := s.readMem (s.sp + 1), sp := s.sp + 2 } :=
  congrArg Host.Outcome.next ((popPair_eq .de s).trans (State.setPair_de_cat _ _ _))

theorem exec_popH (s : State) :
    exec .popH s = .next { s with l := s.readMem s.sp, h := s.readMem (s.sp + 1), sp := s.sp + 2 } :=
  congrArg Host.Outcome.next ((popPair_eq .hl s).trans (State.setPair_hl_cat _ _ _))

/-! ## The unassigned bytes -/

/-- Each constructor that stands for an unassigned byte means what `unassigned` does with that byte (R224, R225). -/
theorem exec_of_unassignedOf {i : Instr} {u : Config.Unassigned} (h : Claims.unassignedOf i = some u) (s : State) :
    exec i s = .next (s.unassigned u) := by
  unfold Claims.unassignedOf at h
  split at h <;> cases h <;> rfl

end Sys2Proof.Machine

namespace Sys2Proof.Claims

open Sys2Proof.Machine

/-- Settles O42: a push as two pushed bytes, a pop as two bytes read at SP, for each pair of registers. -/
theorem pushAndPopPairs : Obligations.PushAndPopPairs :=
  ⟨⟨rfl, rfl, rfl, rfl, rfl, rfl⟩, fun s =>
    ⟨⟨exec_pushB s, exec_pushD s, exec_pushH s⟩, exec_popB s, exec_popD s, exec_popH s⟩⟩

/-- Settles O43: the push and the pop of the status word, and the pop of what the push stored. -/
theorem pushAndPopStatus : Obligations.PushAndPopStatus :=
  ⟨⟨rfl, rfl⟩, fun s =>
    ⟨exec_pushPSW s, congrArg Host.Outcome.next (popStatus_eq s), fun hs =>
      execAll_pair (exec_pushPSW s) (congrArg Host.Outcome.next (popStatus_pushed hs))⟩⟩

/-- Settles O44: `exchangeTop_eq`. -/
theorem exchangeHLWithStackTop : Obligations.ExchangeHLWithStackTop :=
  ⟨rfl, fun s => congrArg Host.Outcome.next (exchangeTop_eq s)⟩

/-- Settles O45: the effects are the meanings themselves (R216, R217). -/
theorem portInputAndOutput : Obligations.PortInputAndOutput := fun _ p8 =>
  ⟨encode_of_f2 (op := 0xDB) rfl p8, encode_of_f2 (op := 0xD3) rfl p8, rfl, rfl⟩

/-- Settles O46: the meanings themselves answer the state they are given (R218 to R222). -/
theorem inertInstructionsDoNothing : Obligations.InertInstructionsDoNothing :=
  ⟨⟨rfl, rfl, rfl, rfl, rfl⟩, fun _ => ⟨rfl, rfl, rfl, rfl, rfl⟩⟩

/-- Settles O47: the meaning sets `halted`, and a halted core does not step (R90). -/
theorem haltSetsHaltedOnly : Obligations.HaltSetsHaltedOnly := ⟨rfl, fun _ => ⟨rfl, step_halted rfl⟩⟩

/-- Settles O48: the encoding and the effect of each byte by `unassignedOf`, the effect being a NOP or the fail-stop by
the parameter's own bit. -/
theorem unassignedBytesNopOrFailStop : Obligations.UnassignedBytesNopOrFailStop :=
  have hencode {i : Instr} (u : Config.Unassigned) (h : unassignedOf i = some u) := encode_of_unassignedOf h
  ⟨⟨hencode .u08 rfl, hencode .u10 rfl, hencode .u18 rfl, hencode .u28 rfl, hencode .u38 rfl,
      hencode .uCB rfl, hencode .uD9 rfl, hencode .uDD rfl, hencode .uED rfl, hencode .uFD rfl⟩, fun s =>
    have hexec {i : Instr} (u : Config.Unassigned) (h : unassignedOf i = some u) := exec_of_unassignedOf h s
    ⟨hexec .u08 rfl, hexec .u10 rfl, hexec .u18 rfl, hexec .u28 rfl, hexec .u38 rfl,
      hexec .uCB rfl, hexec .uD9 rfl, hexec .uDD rfl, hexec .uED rfl, hexec .uFD rfl⟩⟩

end Sys2Proof.Claims
end

section
/-! The host's store and the copy of the registers (O55). -/

namespace Sys2Proof.Machine

/-- The byte at every address after a host's store, as a number: value modulo 256 at the one address (R7, R263). -/
theorem State.toNat_readMem_writeByte {s : State} (hs : s.Inv) (address value : Int) (x : Word) :
    (((s.writeByte address value).readMem x).toNat : Int) =
      if (x.toNat : Int) = address % 65536 then value % 256 else ((s.readMem x).toNat : Int) := by
  rw [State.readMem_writeByte hs]
  split
  · exact trunc8_toNat value
  · rfl

/-- A host's store is a store to memory: it replaces the field `mem` and no other (R263). -/
theorem State.writeByte_eq_update_mem (s : State) (address value : Int) :
    s.writeByte address value = { s with mem := (s.writeByte address value).mem } := rfl

/-- The copy does not look at memory (R265). -/
theorem State.getState_update_mem (s : State) (mem' : Memory) : { s with mem := mem' }.getState = s.getState := rfl

end Sys2Proof.Machine

namespace Sys2Proof.Claims

open Sys2Proof.Machine

/-- Settles O55: the bytes by `toNat_readMem_writeByte`; only memory is replaced, and `getState` does not look at it. -/
theorem hostWriteByteAndGetState : Obligations.HostWriteByteAndGetState := fun s address value hs =>
  ⟨rfl, State.toNat_readMem_writeByte hs address value, s.writeByte_eq_update_mem address value,
    s.getState_update_mem _, rfl⟩

end Sys2Proof.Claims
end
